-- ==== Sys2Proof/Word.lean ====
section
/-! DEFINITION. The word types of the codec: a byte of either stream (8 bits), the identifier
operand (32 bits, R7 `ID_W`), one hex digit of a payload string (R78). Nothing is signed (R80). -/

namespace Sys2Proof

/-- One byte of a stream, unsigned (00_scope.md section 5). -/
abbrev Byte := BitVec 8

/-- The identifier operand and result, `id: u32` (R7, R15, R16). -/
abbrev Word := BitVec 32

/-- One hex digit of a payload given as a digit string (R78). -/
abbrev Nibble := BitVec 4

end Sys2Proof
end

