-- ==== Sys2Proof/Config.lean ====
section
/-! DEFINITION. The constants of the codec (R6: constants, not state, which no operation
can change; R7: none of these sizes is left to the implementation). The one open parameter, `PAYLOAD_IN_MAX` (R8, D13), has no constant:
a SEND operand payload is a byte list of any length. Every other choice the spec leaves to the
environment (how short a read is, when the transport fails, how much of a burst a failed write
delivers) is data of an `Event` in `State`, so a statement over all states holds for every draw. -/

namespace Sys2Proof.Config

/-- `START_MARKER` (R7): the first byte of every wire frame. -/
def startMarker : Byte := 0xAA#8

/-- `END_MARKER` (R7): the last byte of every wire frame. -/
def endMarker : Byte := 0x55#8

/-- `MAX_PAYLOAD` (R7): the largest payload length a frame can carry. -/
def maxPayload : Nat := 15

/-- `MIN_FRAME` (R7): the shortest wire frame. -/
def minFrame : Nat := 5

/-- `MAX_FRAME` (R7): the longest wire frame. -/
def maxFrame : Nat := 22

end Sys2Proof.Config
end

