-- ==== Sys2Proof/Syntax.lean ====
section
/-! DEFINITION. The syntax of the codec: the two enumerations of the source, and one constructor of
`Instr` for each of the ten rows of spec/opcode_table.json (R60, R62): the four frame forms the
encoder emits, the two frame classes the decoder accepts, the four operations of the host. -/

namespace Sys2Proof

/-- `IdentifierKind` (R12): the wire size of the identifier, fixed per instance. -/
inductive IdKind where
  | standard
  | extended
  deriving DecidableEq, Repr

/-- `FrameType` (R15): the polarity of the REMOTE bit. -/
inductive FrameType where
  | data
  | remote
  deriving DecidableEq, Repr

/-- The instructions of the codec.

The `frame…` forms (R60, emitted) are what the encoder writes to the TX stream, one per successful
SEND. The `rxframe…` classes (R60, received) are what the decoder accepts from the RX stream: their
`ignored` field is bits 7:5 of the received ConfigByte, which the decoder does not look at (R59), and
their identifier is as wide as the configured kind, not as the frame's EXT bit (R58). The last four
are the operations the host issues (R61, R62); SEND carries its operands (R18). -/
inductive Instr where
  /-- `FRAME.DATA.STD`: Data frame, 2-byte identifier. -/
  | frameDataStd (id : BitVec 16) (payload : List Byte)
  /-- `FRAME.REMOTE.STD`: Remote frame, 2-byte identifier, no payload. -/
  | frameRemoteStd (id : BitVec 16)
  /-- `FRAME.DATA.EXT`: Data frame, 4-byte identifier. -/
  | frameDataExt (id : BitVec 32) (payload : List Byte)
  /-- `FRAME.REMOTE.EXT`: Remote frame, 4-byte identifier, no payload. -/
  | frameRemoteExt (id : BitVec 32)
  /-- `RXFRAME.DATA`: a received frame whose ConfigByte bit 4 is 0. -/
  | rxframeData (ignored : BitVec 3) (id : Word) (payload : List Byte)
  /-- `RXFRAME.REMOTE`: a received frame whose ConfigByte bit 4 is 1; it may carry a payload (R104). -/
  | rxframeRemote (ignored : BitVec 3) (id : Word) (payload : List Byte)
  /-- `NEW` (R110). -/
  | new (kind : IdKind)
  /-- `SEND` (R77). -/
  | send (ftype : FrameType) (id : Word) (payload : List Byte)
  /-- `RECEIVE` (R101). -/
  | receive
  /-- `CLOSE` (R111). -/
  | close
  deriving DecidableEq, Repr

/-- Where the bytes of an instruction stand: the host's command port (operations), a burst on its
way to the TX stream (emitted frame forms), the RX stream of a block configured with a kind
(received frame classes). One byte sequence can be an instruction of more than one port. -/
inductive Port where
  | command
  | txBurst
  | rxStream (kind : IdKind)
  deriving DecidableEq, Repr

/-- The port on which an instruction is met, in a block configured with `k`. -/
def Instr.port (k : IdKind) : Instr → Port
  | .frameDataStd _ _ => .txBurst
  | .frameRemoteStd _ => .txBurst
  | .frameDataExt _ _ => .txBurst
  | .frameRemoteExt _ => .txBurst
  | .rxframeData _ _ _ => .rxStream k
  | .rxframeRemote _ _ _ => .rxStream k
  | .new _ => .command
  | .send _ _ _ => .command
  | .receive => .command
  | .close => .command

end Sys2Proof
end

