-- ==== Sys2Proof/Decode.lean ====
section
/-! DEFINITION. The wire encoding: the field helpers (ConfigByte, identifier bytes), the decoder of
the three ports, total on any bytes and rejecting by name, and after it the encoder, written from
the same tables of the spec (R50 to R60, R62, opcode_table.json). The byte layout of a command
message is the model's (assumption 3: DESIGN CHOICE); the selector codes are R62's. -/

namespace Sys2Proof

/-! ### Fields -/

/-- `ws(k)` (R12, R7 `WS_STD`, `WS_EXT`): the number of identifier bytes on the wire. -/
def wireSize : IdKind → Nat
  | .standard => 2
  | .extended => 4

/-- Bit 5 of the ConfigByte, EXT (R52), in place. -/
def extBits : IdKind → Byte
  | .standard => 0b0000_0000#8
  | .extended => 0b0010_0000#8

/-- Bit 4 of the ConfigByte, REMOTE (R52), in place. -/
def remoteBits : FrameType → Byte
  | .data => 0b0000_0000#8
  | .remote => 0b0001_0000#8

/-- The ConfigByte the encoder produces (R73), for a payload of `len` bytes. -/
def configByte (k : IdKind) (ft : FrameType) (len : Nat) : Byte :=
  0b1100_0000#8 ||| extBits k ||| remoteBits ft ||| BitVec.ofNat 8 len

/-- `frame_type` from bit 4 of a ConfigByte (R93). -/
def configFtype (cfg : Byte) : FrameType :=
  if cfg.getLsbD 4 then .remote else .data

/-- `payload_len` from bits 3:0 of a ConfigByte (R93): a literal byte count (R55). -/
def configLen (cfg : Byte) : Nat :=
  (cfg.extractLsb' 0 4).toNat

/-- Bits 7:5 of a received ConfigByte: MARK and EXT, which the decoder ignores (R59). -/
def configIgnored (cfg : Byte) : BitVec 3 :=
  cfg.extractLsb' 5 3

/-- A received ConfigByte from the bits the decoder ignores and those it takes (R60 `xxx0LLLL`,
`xxx1LLLL`). -/
def rxConfigByte (ignored : BitVec 3) (ft : FrameType) (len : Nat) : Byte :=
  (ignored.setWidth 8 <<< 5) ||| remoteBits ft ||| (BitVec.ofNat 4 len).setWidth 8

/-- `id_bytes[k] = (id >> (8*k))[7:0]` (R54). -/
def idByte (id : Word) (k : Nat) : Byte :=
  (id >>> (8 * k)).setWidth 8

/-- The identifier field, `w` bytes, least significant first (R54, R74). -/
def idBytes (w : Nat) (id : Word) : List Byte :=
  (List.range w).map (idByte id)

/-- The identifier of received bytes: the sum over `k` of `b[k] << (8*k)`, zero-extended (R54, R94).
The terms share no bit, so the sum is an OR (R80). -/
def idOfBytes : List Byte → Word
  | [] => 0#32
  | b :: bs => b.setWidth 32 ||| (idOfBytes bs <<< 8)

/-- `0xAA | ConfigByte | id_bytes | payload_bytes | 0x55` (R50). -/
def wireFrame (cfg : Byte) (ids payload : List Byte) : List Byte :=
  Config.startMarker :: cfg :: (ids ++ payload ++ [Config.endMarker])

/-! ### The decoder -/

/-- Why bytes are no instruction of a port. -/
inductive DecodeReject where
  /-- the sequence ends before the instruction does -/
  | truncated
  /-- bytes follow the instruction -/
  | trailing
  /-- a command message whose first byte is none of the four selectors (R62) -/
  | badSelector
  /-- a one-bit operand (kind, frame type) whose byte is neither 0 nor 1 -/
  | badOperand
  /-- the first byte of a frame is not `0xAA` (R92) -/
  | badStartMarker
  /-- a ConfigByte the encoder never produces, in a burst (R53) -/
  | badConfigByte
  /-- the byte in the end position of a frame is not `0x55` (R96) -/
  | badEndMarker
  deriving DecidableEq, Repr

/-- The kind and type of an emitted frame by the match and mask of its row (R60). -/
def emittedForm (cfg : Byte) : Option (IdKind × FrameType) :=
  if cfg &&& 0xF0#8 = 0xC0#8 then some (.standard, .data)
  else if cfg &&& 0xFF#8 = 0xD0#8 then some (.standard, .remote)
  else if cfg &&& 0xF0#8 = 0xE0#8 then some (.extended, .data)
  else if cfg &&& 0xFF#8 = 0xF0#8 then some (.extended, .remote)
  else none

/-- What follows the ConfigByte: `w` identifier bytes, `len` payload bytes, the end marker (R50). -/
def splitBody (w len : Nat) (body : List Byte) : Except DecodeReject (Word × List Byte) :=
  if body.length < w + len + 1 then .error .truncated
  else if w + len + 1 < body.length then .error .trailing
  else if body.getD (w + len) 0#8 ≠ Config.endMarker then .error .badEndMarker
  else .ok (idOfBytes (body.take w), (body.drop w).take len)

/-- The emitted frame form with these fields. -/
def emittedInstr (k : IdKind) (ft : FrameType) (id : Word) (payload : List Byte) : Instr :=
  match k, ft with
  | .standard, .data => .frameDataStd (id.setWidth 16) payload
  | .standard, .remote => .frameRemoteStd (id.setWidth 16)
  | .extended, .data => .frameDataExt id payload
  | .extended, .remote => .frameRemoteExt id

/-- The received frame class with these fields. -/
def receivedInstr (cfg : Byte) (id : Word) (payload : List Byte) : Instr :=
  match configFtype cfg with
  | .data => .rxframeData (configIgnored cfg) id payload
  | .remote => .rxframeRemote (configIgnored cfg) id payload

/-- The frame form a burst is (R60, first table). -/
def decodeBurst : List Byte → Except DecodeReject Instr
  | [] => .error .truncated
  | m :: rest =>
    if m ≠ Config.startMarker then .error .badStartMarker
    else match rest with
      | [] => .error .truncated
      | cfg :: body =>
        match emittedForm cfg with
        | none => .error .badConfigByte
        | some (k, ft) =>
          match splitBody (wireSize k) (configLen cfg) body with
          | .error r => .error r
          | .ok (id, payload) => .ok (emittedInstr k ft id payload)

/-- The kind a burst says it has: bit 5 of its ConfigByte (R52). -/
def burstKind : List Byte → IdKind
  | _ :: cfg :: _ => if cfg.getLsbD 5 then .extended else .standard
  | _ => .standard

/-- The frame class of exactly one received frame (R60, second table; R58: the identifier is as
wide as the configured kind). -/
def decodeReceived (k : IdKind) : List Byte → Except DecodeReject Instr
  | [] => .error .truncated
  | m :: rest =>
    if m ≠ Config.startMarker then .error .badStartMarker
    else match rest with
      | [] => .error .truncated
      | cfg :: body =>
        match splitBody (wireSize k) (configLen cfg) body with
        | .error r => .error r
        | .ok (id, payload) => .ok (receivedInstr cfg id payload)

/-- The kind a one-bit operand byte names (R12: Standard = 0, Extended = 1). -/
def kindOfByte (b : Byte) : Option IdKind :=
  if b = 0#8 then some .standard else if b = 1#8 then some .extended else none

/-- The frame type a one-bit operand byte names (R15: Data = 0, Remote = 1). -/
def ftypeOfByte (b : Byte) : Option FrameType :=
  if b = 0#8 then some .data else if b = 1#8 then some .remote else none

/-- The operands of NEW: one byte, the kind. -/
def decodeNew : List Byte → Except DecodeReject Instr
  | [] => .error .truncated
  | b :: [] =>
    match kindOfByte b with
    | none => .error .badOperand
    | some k => .ok (.new k)
  | _ :: _ :: _ => .error .trailing

/-- The operands of SEND: one byte of type, four of identifier (least significant first), and then
the payload to the end of the message. -/
def decodeSend : List Byte → Except DecodeReject Instr
  | t :: b0 :: b1 :: b2 :: b3 :: payload =>
    match ftypeOfByte t with
    | none => .error .badOperand
    | some ft => .ok (.send ft (idOfBytes [b0, b1, b2, b3]) payload)
  | _ => .error .truncated

/-- An operation with no operands. -/
def decodeBare (i : Instr) : List Byte → Except DecodeReject Instr
  | [] => .ok i
  | _ :: _ => .error .trailing

/-- The operation of a command message: the selector (R62) and its operands. -/
def decodeCommand : List Byte → Except DecodeReject Instr
  | [] => .error .truncated
  | sel :: operands =>
    if sel = 0b00#8 then decodeNew operands
    else if sel = 0b01#8 then decodeSend operands
    else if sel = 0b10#8 then decodeBare .receive operands
    else if sel = 0b11#8 then decodeBare .close operands
    else .error .badSelector

/-- The instruction that exactly these bytes are on a port. -/
def decode : Port → List Byte → Except DecodeReject Instr
  | .command, bytes => decodeCommand bytes
  | .txBurst, bytes => decodeBurst bytes
  | .rxStream k, bytes => decodeReceived k bytes

/-- The number of bytes of the frame at the head of a received stream, once its ConfigByte is there
(R51, R58). -/
def receivedLength (k : IdKind) : List Byte → Option Nat
  | _ :: cfg :: _ => some (3 + wireSize k + configLen cfg)
  | _ => none

/-! ### The encoder -/

/-- The operand byte of a kind (R12). -/
def kindByte : IdKind → Byte
  | .standard => 0#8
  | .extended => 1#8

/-- The operand byte of a frame type (R15). -/
def ftypeByte : FrameType → Byte
  | .data => 0#8
  | .remote => 1#8

/-- The bytes of a well-formed instruction, in a block configured with `k` (which matters only for
the width of a received identifier). -/
def encode (k : IdKind) : Instr → List Byte
  | .frameDataStd id p =>
      wireFrame (configByte .standard .data p.length) (idBytes 2 (id.setWidth 32)) p
  | .frameRemoteStd id => wireFrame (configByte .standard .remote 0) (idBytes 2 (id.setWidth 32)) []
  | .frameDataExt id p => wireFrame (configByte .extended .data p.length) (idBytes 4 id) p
  | .frameRemoteExt id => wireFrame (configByte .extended .remote 0) (idBytes 4 id) []
  | .rxframeData x id p => wireFrame (rxConfigByte x .data p.length) (idBytes (wireSize k) id) p
  | .rxframeRemote x id p => wireFrame (rxConfigByte x .remote p.length) (idBytes (wireSize k) id) p
  | .new kind => [0b00#8, kindByte kind]
  | .send ft id p => 0b01#8 :: ftypeByte ft :: (idBytes 4 id ++ p)
  | .receive => [0b10#8]
  | .close => [0b11#8]

/-! ### The words of the opcode table

The table numbers the bits of the ConfigByte for a frame row and those of the 2-bit selector for an
operation (its "match_applies_to"): one byte either way. The bytes around it are laid out here, with
operands of zeros. The two numberings overlap (assumption 12: DESIGN CHOICE): a byte below 4 is read as a selector,
any other byte as a ConfigByte, of an emitted form where one of its rows matches. -/

/-- The bytes of a word of the table, the first in bits 7:0. -/
def wordBytes (nbits w : Nat) : List Byte :=
  (List.range (nbits / 8)).map fun i => BitVec.ofNat 8 (w / 2 ^ (8 * i))

/-- The frame with this ConfigByte, an identifier of zeros and a payload of zeros. -/
def zeroFrame (k : IdKind) (cfg : Byte) : List Byte :=
  wireFrame cfg (List.replicate (wireSize k) 0#8) (List.replicate (configLen cfg) 0#8)

/-- The command message with this selector and operands of zeros. -/
def zeroCommand (sel : Byte) : List Byte :=
  if sel = 0b00#8 then [sel, 0#8]
  else if sel = 0b01#8 then [sel, 0#8, 0#8, 0#8, 0#8, 0#8]
  else [sel]

/-- The port and the bytes of a one-byte word of the table, in a block configured with `k`. -/
def tableByte (k : IdKind) (b : Byte) : Port × List Byte :=
  if b.toNat < 4 then (.command, zeroCommand b)
  else match emittedForm b with
    | some (kind, _) => (.txBurst, zeroFrame kind b)
    | none => (.rxStream k, zeroFrame k b)

/-- The port and the bytes of a word given in full: a frame begins with the start marker. -/
def tableFull (k : IdKind) (bytes : List Byte) : Port × List Byte :=
  match bytes with
  | m :: cfg :: _ =>
    if m ≠ Config.startMarker then (.command, bytes)
    else if (emittedForm cfg).isSome then (.txBurst, bytes) else (.rxStream k, bytes)
  | _ => (.command, bytes)

/-- Where and as what bytes a word of the table stands, in a block configured with `k`. -/
def tableWord (k : IdKind) (nbits w : Nat) : Port × List Byte :=
  if nbits ≤ 8 then tableByte k (BitVec.ofNat 8 w) else tableFull k (wordBytes nbits w)

/-- The instruction the decoder reads from a word of the opcode table. -/
def decodeTableWord (nbits w : Nat) : Option Instr :=
  match decode (tableWord .standard nbits w).1 (tableWord .standard nbits w).2 with
  | .ok i => some i
  | .error _ => none

end Sys2Proof
end

