-- ==== Sys2Proof/WellFormed.lean ====
section
/-! DEFINITION. Which instructions have an encoding: a frame carries at most 15 payload bytes (R7),
and a received identifier is no wider than the configured kind (R94). -/

namespace Sys2Proof

/-- The payload fits the 4-bit length field (R52, R55). -/
def payloadFits (payload : List Byte) : Bool :=
  decide (payload.length ≤ Config.maxPayload)

/-- The identifier fits the wire size of the kind (R94). -/
def idFits (k : IdKind) (id : Word) : Bool :=
  decide (id.toNat < 2 ^ (8 * wireSize k))

/-- `i` is an instruction of a block configured with `k`. -/
def wellFormed (k : IdKind) : Instr → Bool
  | .frameDataStd _ p => payloadFits p
  | .frameRemoteStd _ => true
  | .frameDataExt _ p => payloadFits p
  | .frameRemoteExt _ => true
  | .rxframeData _ id p => payloadFits p && idFits k id
  | .rxframeRemote _ id p => payloadFits p && idFits k id
  | .new _ => true
  | .send _ _ _ => true
  | .receive => true
  | .close => true

end Sys2Proof
end

