-- ==== Sys2Proof/Machine/State.lean ====
section
/-! DEFINITION. The state of the codec as plain data (R10): the control registers, the operands of
SEND, the results of RECEIVE, the status registers, the decoder's working state, the burst of a SEND
in flight, and the environment: the two streams of the transport (R31, R32), its close strobes
(R42) and the list of what the caller and the transport do next (assumption 1:
DESIGN CHOICE, safe). Every register holds
a value in every state; the validity window of a result or status register (R18) is a bit beside it,
and the host's read of a register outside its window is a fault (assumption 4: DESIGN CHOICE,
unsafe; assumption 5: DESIGN CHOICE, safe). -/

namespace Sys2Proof.Machine

/-- `LIFE` (R11): no Converter yet, a Converter with an open transport, or after CLOSE. -/
inductive Life where
  | unconfigured
  | opened
  | closed
  deriving DecidableEq, Repr

/-- The completion status of an operation (R17, R120): success or one of the six errors. -/
inductive Status where
  | ok
  | remoteFrameWithPayload
  | idTooLarge
  | payloadTooLarge
  | badStartByte
  | badEndByte
  | transportError
  deriving DecidableEq, Repr

/-- `RX_PHASE` (R20), the decoder's `pc`: the field of the frame it is reading. -/
inductive Phase where
  | idle
  | start
  | config
  | ident
  | payload
  | endMark
  deriving DecidableEq, Repr

/-- The host channels (R24): control, transmit, receive. -/
inductive Channel where
  | ctl
  | txc
  | rxc
  deriving DecidableEq, Repr

/-- The operations (R61), as a life-cycle refusal names them. -/
inductive Operation where
  | new
  | send
  | receive
  | close
  deriving DecidableEq, Repr

/-- The registers the host reads (R10, column "read by"). -/
inductive HostReg where
  | ctlStatus
  | txStatus
  | rxStatus
  | rxFtype
  | rxId
  | rxPlen
  | rxPayload
  deriving DecidableEq, Repr

/-- What one actor outside the agents does (R134: the caller and the transport; R140: the reset
input). The transport's free choices (U3 to U5) are the arguments of its events. -/
inductive Event where
  /-- the caller issues the operation of a command message on its channel (R24) -/
  | issue (message : List Byte)
  /-- the caller issues a SEND whose payload is a string of hex digits (R64, R78) -/
  | issueHex (ftype : FrameType) (id : Word) (digits : List Nibble)
  /-- the transport completes the write of the burst in flight (R33) -/
  | writeDone
  /-- the transport fails that write, this many bytes of the burst having reached the link (R35) -/
  | writeFails (delivered : Nat)
  /-- the transport answers the decoder's read with this many bytes, or as many as were asked for
  and have arrived, if that is fewer (R36) -/
  | readReturns (count : Nat)
  /-- the transport fails the decoder's read (R39) -/
  | readFails
  /-- the transport answers the decoder's reads in full for as long as bytes are there -/
  | readAll
  /-- bytes arrive on the RX stream (R32) -/
  | arrive (bytes : List Byte)
  /-- the host reads a result or status register (R18) -/
  | hostRead (reg : HostReg)
  /-- the reset input (R140), this many bytes of a burst in flight having reached the link -/
  | reset (delivered : Nat)
  deriving DecidableEq, Repr

/-- Why the machine stops: a usage hazard was violated and the spec gives no values (00_scope.md
section 5, "fault"). -/
inductive Fault where
  /-- raised by SEND when one is in flight (R143, U8): the source's outcome is corrupted frames on the
  wire, of which the spec gives no values. Safe: the model stops where the hardware goes on. -/
  | sendOverlap
  /-- raised by RECEIVE when one is in flight (R144, U9). Safe, as `sendOverlap`. -/
  | receiveOverlap
  /-- raised by the host's read of a result or status register that holds no value, as the spec
  asks of a model (R18, R25, R141, U16). Safe: the model stops where a read would return some number. -/
  | readOutsideWindow (reg : HostReg)
  deriving DecidableEq, Repr

/-- Why there is no step: the spec gives what was asked for no meaning. -/
inductive Refusal where
  /-- raised by `exec` for an instruction whose meaning has not been written: by none at present. Safe. -/
  | notModelled (mnemonic : String)
  /-- raised by an operation in a life-cycle state for which R13 says "refused" (R14, U15). Safe: nothing
  can be proved of such an operation. -/
  | lifeCycle (op : Operation)
  /-- raised by the fetch of bytes that are no instruction of their port. Safe. -/
  | undecodable (reason : DecodeReject)
  /-- raised by an emitted frame form when the encoder does not hold that frame: the block issues no byte
  that is not part of the frame of a SEND (R34). No event leads to it. Safe. -/
  | frameNotInFlight
  /-- raised by a received frame class when no RECEIVE stands at the start of that frame (R101, R102). No
  event leads to it. Safe. -/
  | frameNotAtCursor
  deriving DecidableEq, Repr

/-- The machine. -/
@[ext]
structure State where
  /-- `LIFE` (R11) -/
  life : Life
  /-- `ID_KIND` (R12) -/
  idKind : IdKind
  /-- `TX_FTYPE` (R15) -/
  txFtype : FrameType
  /-- `TX_ID` (R15) -/
  txId : Word
  /-- `TX_PAYLOAD` (R15); its length is `TX_PLEN` -/
  txPayload : List Byte
  /-- `TX_STATUS` (R17) -/
  txStatus : Status
  /-- `TX_STATUS` is in its validity window (R18) -/
  txStatusValid : Bool
  /-- `RX_FTYPE` (R16) -/
  rxFtype : FrameType
  /-- `RX_ID` (R16) -/
  rxId : Word
  /-- `RX_PAYLOAD` (R16); its length is `RX_PLEN` -/
  rxPayload : List Byte
  /-- `RX_FTYPE`, `RX_ID`, `RX_PLEN` and `RX_PAYLOAD` are in their validity window (R16, R18) -/
  rxFrameValid : Bool
  /-- `RX_STATUS` (R17) -/
  rxStatus : Status
  /-- `RX_STATUS` is in its validity window (R18) -/
  rxStatusValid : Bool
  /-- `CTL_STATUS` (R17) -/
  ctlStatus : Status
  /-- `CTL_STATUS` is in its validity window (R18) -/
  ctlStatusValid : Bool
  /-- `RX_PHASE`, written `pc` in the spec (R20) -/
  rxPhase : Phase
  /-- `RX_CFG` (R21) -/
  rxCfg : Byte
  /-- `RX_CNT` (R21): the bytes still to be gathered for the current field -/
  rxCnt : Nat
  /-- `RX_ACC` (R21): the identifier being assembled -/
  rxAcc : Word
  /-- the part of the payload already gathered (R21) -/
  rxGathered : List Byte
  /-- the burst of the SEND that waits in its write (R33, R77), if one is in flight -/
  txPending : Option (List Byte)
  /-- the TX stream: the bursts written, in order (R31) -/
  txBursts : List (List Byte)
  /-- the RX stream: the bytes that have arrived and are not yet consumed (R32) -/
  rxStream : List Byte
  /-- the RX cursor: the number of bytes consumed (R32) -/
  rxCursor : Nat
  /-- the close strobes the transport has been given (R42) -/
  closeStrobes : Nat
  /-- what the caller and the transport do next, first event first -/
  events : List Event
  deriving DecidableEq, Repr

/-- The block right after reset (R25, R140, R141): `Unconfigured`, `IDLE`, every window closed, no
operation in flight, nothing written and nothing consumed. The spec states that every other register
holds no value: the values stored here are the model's (assumption 4: DESIGN
CHOICE, unsafe), behind closed windows. -/
def State.reset : State where
  life := .unconfigured
  idKind := .standard
  txFtype := .data
  txId := 0#32
  txPayload := []
  txStatus := .ok
  txStatusValid := false
  rxFtype := .data
  rxId := 0#32
  rxPayload := []
  rxFrameValid := false
  rxStatus := .ok
  rxStatusValid := false
  ctlStatus := .ok
  ctlStatusValid := false
  rxPhase := .idle
  rxCfg := 0#8
  rxCnt := 0
  rxAcc := 0#32
  rxGathered := []
  txPending := none
  txBursts := []
  rxStream := []
  rxCursor := 0
  closeStrobes := 0
  events := []

end Sys2Proof.Machine
end

