-- ==== Sys2Proof/Machine/Ops.lean ====
section
/-! DEFINITION. The named operations every meaning is written over: the writes of the registers, the
two streams, the validity windows, and completing an operation, with a status that may be an error
(R126: this hardware's exception; R129: there is nothing to return from). -/

namespace Sys2Proof.Machine

/-! ### Control registers -/

/-- `LIFE <- l` (R11). -/
def State.setLife (l : Life) (s : State) : State :=
  { s with life := l }

/-- `ID_KIND <- k` (R12). -/
def State.setIdKind (k : IdKind) (s : State) : State :=
  { s with idKind := k }

/-- One `close()` to the transport (R42). -/
def State.strobeClose (s : State) : State :=
  { s with closeStrobes := s.closeStrobes + 1 }

/-! ### Issue and completion: the validity windows of R18 -/

/-- SEND is issued: the host's operands are in their registers (R15) and `TX_STATUS` no longer holds
a value (R18; assumption 9: DESIGN CHOICE, safe). -/
def State.beginSend (ft : FrameType) (id : Word) (payload : List Byte) (s : State) : State :=
  { s with txFtype := ft, txId := id, txPayload := payload, txStatusValid := false }

/-- RECEIVE is issued: its results and `RX_STATUS` no longer hold a value (R18). -/
def State.beginReceive (s : State) : State :=
  { s with rxStatusValid := false, rxFrameValid := false }

/-- An operation on `CTL` completes (R17). -/
def State.completeCtl (e : Status) (s : State) : State :=
  { s with ctlStatus := e, ctlStatusValid := true }

/-- SEND completes: its channel is free (R126). -/
def State.completeTx (e : Status) (s : State) : State :=
  { s with txStatus := e, txStatusValid := true, txPending := none }

/-- RECEIVE completes: `RX_PHASE` is `IDLE`, so the working state is dead (R21), and until results
are written the frame registers hold no value (R101, R126). R21 says nothing of the bits a dead `RX_CFG`,
`RX_CNT`, `RX_ACC` and gathered payload store: here they keep their last ones (assumption 21: DESIGN CHOICE,
unsafe for a claim on them), which no operation and no host read sees. -/
def State.completeRx (e : Status) (s : State) : State :=
  { s with rxStatus := e, rxStatusValid := true, rxPhase := .idle, rxFrameValid := false }

/-- `raise e` by the operation running on a channel (00_scope.md section 5, R126): the status is
written, the operation is over and the channel is free. Nothing is saved anywhere and control goes
nowhere. -/
def State.raise (ch : Channel) (e : Status) (s : State) : State :=
  match ch with
  | .ctl => s.completeCtl e
  | .txc => s.completeTx e
  | .rxc => s.completeRx e

/-- The results of a RECEIVE that completed `OK` (R16, R97). -/
def State.writeRxFrame (ft : FrameType) (id : Word) (payload : List Byte) (s : State) : State :=
  { s with rxFtype := ft, rxId := id, rxPayload := payload, rxFrameValid := true }

/-! ### The TX stream -/

/-- SEND waits in the write of its burst (R33, R77). -/
def State.holdBurst (burst : List Byte) (s : State) : State :=
  { s with txPending := some burst }

/-- A burst is on the TX stream (R31). -/
def State.appendTx (burst : List Byte) (s : State) : State :=
  { s with txBursts := s.txBursts ++ [burst] }

/-- A prefix of a burst is on the TX stream: nothing, if the prefix is empty (R35;
assumption 6: DESIGN CHOICE, unsafe). -/
def State.deliver (count : Nat) (burst : List Byte) (s : State) : State :=
  if (burst.take count).isEmpty then s else s.appendTx (burst.take count)

/-! ### The RX stream -/

/-- The next `n` bytes are consumed (R38). -/
def State.consume (n : Nat) (s : State) : State :=
  { s with rxStream := s.rxStream.drop n, rxCursor := s.rxCursor + n }

/-- Bytes arrive (R32). -/
def State.arrive (bytes : List Byte) (s : State) : State :=
  { s with rxStream := s.rxStream ++ bytes }

/-! ### The decoder's working state (R21) -/

/-- The decoder stands at the start marker with none of an earlier frame (R21). -/
def State.startDecode (s : State) : State :=
  { s with rxPhase := .start, rxCnt := 1, rxCfg := 0#8, rxAcc := 0#32, rxGathered := [] }

/-- `pc <- p`, with `n` bytes to gather. -/
def State.enterPhase (p : Phase) (n : Nat) (s : State) : State :=
  { s with rxPhase := p, rxCnt := n }

/-- The working state is what the fields of a frame leave in it. -/
def State.latch (cfg : Byte) (id : Word) (payload : List Byte) (s : State) : State :=
  { s with rxCfg := cfg, rxAcc := id, rxGathered := payload }

/-! ### Events and reset -/

/-- The events still to come. -/
def State.withEvents (es : List Event) (s : State) : State :=
  { s with events := es }

/-- The reset input (R140): `delivered` bytes of a burst in flight are on the TX stream, the streams
and the transport are not touched otherwise, every operation in flight is abandoned without a status,
and every register is as after reset (assumption 14: DEDUCED, unsafe as assumption 4). -/
def State.assertReset (delivered : Nat) (s : State) : State :=
  { State.reset with
    txBursts := (s.deliver delivered (s.txPending.getD [])).txBursts
    rxStream := s.rxStream
    rxCursor := s.rxCursor
    closeStrobes := s.closeStrobes
    events := s.events }

end Sys2Proof.Machine
end

