-- ==== Sys2Proof/Machine/Decoder.lean ====
section
/-! DEFINITION. The decoder family (41_decode.md): DECODE as a walk through the phases, one byte at a
time (R91, R102); the operation RECEIVE; the two received frame classes; and DECODE as a function of
the bytes available (R100), which the walk is stated to agree with. -/

namespace Sys2Proof.Machine

/-- The decoder after the last identifier byte (R102): `PAYLOAD`, or `END` at once when the frame has
no payload, for which no read is issued (R90, D16). -/
def State.afterIdent (s : State) : State :=
  if configLen s.rxCfg = 0 then s.enterPhase .endMark 1
  else s.enterPhase .payload (configLen s.rxCfg)

/-- One more identifier byte, placed by how many have been gathered (R94). -/
def State.gatherIdent (b : Byte) (s : State) : State :=
  s.latch s.rxCfg (s.rxAcc ||| b.setWidth 32 <<< (8 * (wireSize s.idKind - s.rxCnt))) s.rxGathered

/-- One more payload byte, in arrival order (R95). -/
def State.gatherPayload (b : Byte) (s : State) : State :=
  s.latch s.rxCfg s.rxAcc (s.rxGathered ++ [b])

/-- The frame whose fields are gathered completes RECEIVE with `OK` (R97, R101). -/
def State.acceptFrame (s : State) : State :=
  (s.completeRx .ok).writeRxFrame (configFtype s.rxCfg) s.rxAcc s.rxGathered

/-- The transitions of R102, for one byte returned to the decoder. -/
def State.transition (b : Byte) (s : State) : State :=
  match s.rxPhase with
  | .idle => s
  | .start =>
    if b = Config.startMarker then s.enterPhase .config 1 else s.raise .rxc .badStartByte
  | .config => (s.latch b 0#32 []).enterPhase .ident (wireSize s.idKind)
  | .ident =>
    if s.rxCnt ≤ 1 then (s.gatherIdent b).afterIdent
    else (s.gatherIdent b).enterPhase .ident (s.rxCnt - 1)
  | .payload =>
    if s.rxCnt ≤ 1 then (s.gatherPayload b).enterPhase .endMark 1
    else (s.gatherPayload b).enterPhase .payload (s.rxCnt - 1)
  | .endMark =>
    if b = Config.endMarker then s.acceptFrame else s.raise .rxc .badEndByte

/-- One byte of the RX stream returned to the decoder: it is consumed (R38), and its phase says what
becomes of it. -/
def State.acceptByte (b : Byte) (s : State) : State :=
  (s.consume 1).transition b

/-- Bytes returned to the decoder until its RECEIVE completes: no byte is taken after that (R37). -/
def State.feed : List Byte → State → State
  | [], s => s
  | b :: bs, s => if s.rxPhase = .idle then s else State.feed bs (s.acceptByte b)

/-- One transport read (R36): `count` bytes, but no more than the decoder asked for (the bytes still
missing of its field, R90) and no more than have arrived (assumption 11: DESIGN CHOICE, safe). -/
def State.readReturns (count : Nat) (s : State) : State :=
  State.feed (s.rxStream.take (min count s.rxCnt)) s

/-- The transport's reads answered in full until RECEIVE completes or the stream is exhausted. -/
def State.drain (s : State) : State :=
  State.feed s.rxStream s

/-- RECEIVE (R101). Refused before NEW (R13); a second RECEIVE before the first has completed is a
hazard (R144); on a closed Converter it completes with `TransportError` and consumes nothing. -/
def execReceive (s : State) : Host.Outcome State Fault Refusal :=
  if s.life = .unconfigured then .refused (.lifeCycle .receive)
  else if s.rxPhase ≠ .idle then .fault .receiveOverlap
  else if s.life = .closed then .next (s.beginReceive.raise .rxc .transportError)
  else .next s.beginReceive.startDecode

/-- A whole frame of a received class met by a RECEIVE that stands at its start (R91 to R97, R101):
its bytes are consumed, its fields are the results, and RECEIVE completes `OK` (assumption 15: DESIGN
CHOICE, safe). -/
def receiveFrame (i : Instr) (cfg : Byte) (id : Word) (payload : List Byte) (s : State) :
    Host.Outcome State Fault Refusal :=
  if wellFormed s.idKind i ∧ s.rxPhase = .start ∧ encode s.idKind i <+: s.rxStream then
    .next ((((s.consume (encode s.idKind i).length).latch cfg id payload).enterPhase .endMark 1).acceptFrame)
  else .refused .frameNotAtCursor

/-- `RXFRAME.DATA` (R60): ConfigByte `xxx0LLLL`, result `frame_type = Data`. -/
def execRxframeData (ignored : BitVec 3) (id : Word) (payload : List Byte) (s : State) :
    Host.Outcome State Fault Refusal :=
  receiveFrame (.rxframeData ignored id payload) (rxConfigByte ignored .data payload.length) id payload s

/-- `RXFRAME.REMOTE` (R60): ConfigByte `xxx1LLLL`, result `frame_type = Remote`, with the payload the
nibble says (R95, D12). -/
def execRxframeRemote (ignored : BitVec 3) (id : Word) (payload : List Byte) (s : State) :
    Host.Outcome State Fault Refusal :=
  receiveFrame (.rxframeRemote ignored id payload) (rxConfigByte ignored .remote payload.length) id payload s

/-- What DECODE makes of the bytes available (R100). -/
inductive DecodeResult where
  | blocked (consumed : Nat)
  | badStart (consumed : Nat)
  | badEnd (consumed : Nat)
  | frame (ftype : FrameType) (id : Word) (payload : List Byte) (consumed : Nat)
  deriving DecidableEq, Repr

/-- `decode_fn` (R100), `k` the configured kind and `bytes` the bytes available. -/
def decodeFn (k : IdKind) (bytes : List Byte) : DecodeResult :=
  match bytes with
  | [] => .blocked 0
  | m :: rest =>
    if m ≠ Config.startMarker then .badStart 1
    else match rest with
      | [] => .blocked 1
      | cfg :: body =>
        if body.length < wireSize k + configLen cfg + 1 then .blocked bytes.length
        else if body.getD (wireSize k + configLen cfg) 0#8 ≠ Config.endMarker then
          .badEnd (3 + wireSize k + configLen cfg)
        else .frame (configFtype cfg) (idOfBytes (body.take (wireSize k)))
          ((body.drop (wireSize k)).take (configLen cfg)) (3 + wireSize k + configLen cfg)

end Sys2Proof.Machine
end

