-- ==== Sys2Proof/Machine/Flags.lean ====
section
/-! DEFINITION. The codes of the registers (R11, R12, R15, R17, R20) and the status computation of
the encoder: which error, if any, SEND's operands have (R70, R72, R121 to R123, R128). The status
values are this block's only flags (R17). -/

namespace Sys2Proof.Machine

/-- The 3-bit code of a status (R17). -/
def Status.code : Status → BitVec 3
  | .ok => 0#3
  | .remoteFrameWithPayload => 1#3
  | .idTooLarge => 2#3
  | .payloadTooLarge => 3#3
  | .badStartByte => 4#3
  | .badEndByte => 5#3
  | .transportError => 6#3

/-- The 2-bit code of `LIFE` (R11). -/
def Life.code : Life → BitVec 2
  | .unconfigured => 0#2
  | .opened => 1#2
  | .closed => 2#2

/-- The 3-bit code of `RX_PHASE` (R20). -/
def Phase.code : Phase → BitVec 3
  | .idle => 0#3
  | .start => 1#3
  | .config => 2#3
  | .ident => 3#3
  | .payload => 4#3
  | .endMark => 5#3

/-- `ByteSizeHelper(v)` (R70): the fewest bytes that represent `v`, 0 for 0. -/
def byteSizeHelper (v : Word) : Nat :=
  if v.toNat = 0 then 0
  else if v.toNat ≤ 0xFF then 1
  else if v.toNat ≤ 0xFFFF then 2
  else if v.toNat ≤ 0xFFFFFF then 3
  else 4

/-- The encoder's three checks, the first that fails being reported (R72, R128). -/
def encodeError (ft : FrameType) (id : Word) (plen : Nat) (k : IdKind) : Option Status :=
  if ft = .remote ∧ plen ≠ 0 then some .remoteFrameWithPayload
  else if wireSize k < byteSizeHelper id then some .idTooLarge
  else if Config.maxPayload < plen then some .payloadTooLarge
  else none

end Sys2Proof.Machine
end

