-- ==== Sys2Proof/Machine/Encoder.lean ====
section
/-! DEFINITION. The encoder family (40_encode.md): the pure function ENCODE, the operation SEND, and
the four emitted frame forms. SEND validates its operands, builds the frame and waits in its one
write; the frame form is the write itself, when the transport takes the burst (R33, R77). -/

namespace Sys2Proof.Machine

/-- ENCODE (R71): the wire frame of the operands, or the error of the first check that fails. -/
def encodeWire (ft : FrameType) (id : Word) (payload : List Byte) (k : IdKind) :
    Except Status (List Byte) :=
  match encodeError ft id payload.length k with
  | some e => .error e
  | none => .ok (wireFrame (configByte k ft payload.length) (idBytes (wireSize k) id) payload)

/-- SEND from the point where its operands are in their registers (R77): an encode error completes
it; a valid frame meets a closed Converter, or waits in its write. -/
def State.submit (s : State) : State :=
  match encodeWire s.txFtype s.txId s.txPayload s.idKind with
  | .error e => s.raise .txc e
  | .ok burst => if s.life = .closed then s.raise .txc .transportError else s.holdBurst burst

/-- SEND (R77). Refused before NEW (R13); a second SEND before the first has completed is a hazard
(R143). It completes in its write, a later step (assumption 8: DESIGN CHOICE, safe; assumption 17, on the
order of the two stops: DESIGN CHOICE, safe). -/
def execSend (ft : FrameType) (id : Word) (payload : List Byte) (s : State) :
    Host.Outcome State Fault Refusal :=
  if s.life = .unconfigured then .refused (.lifeCycle .send)
  else if s.txPending.isSome then .fault .sendOverlap
  else .next (s.beginSend ft id payload).submit

/-- The write of a frame form of kind `k` by the SEND that holds it (R33, R34, R76, R77): exactly this
burst is appended to the TX stream and the SEND completes `OK`. A block emits frames of its own kind
only (R60, R148), and no byte outside a SEND (R34; assumption 15: DESIGN CHOICE, safe). -/
def emitFrame (k : IdKind) (i : Instr) (s : State) : Host.Outcome State Fault Refusal :=
  if wellFormed k i ∧ s.idKind = k ∧ s.txPending = some (encode k i) then
    .next ((s.appendTx (encode k i)).completeTx .ok)
  else .refused .frameNotInFlight

/-- `FRAME.DATA.STD` (R60): `AA`, ConfigByte `1100LLLL`, two identifier bytes, `L` payload bytes, `55`. -/
def execFrameDataStd (id : BitVec 16) (payload : List Byte) (s : State) :
    Host.Outcome State Fault Refusal :=
  emitFrame .standard (.frameDataStd id payload) s

/-- `FRAME.REMOTE.STD` (R60): `AA`, ConfigByte `11010000`, two identifier bytes, `55`. -/
def execFrameRemoteStd (id : BitVec 16) (s : State) : Host.Outcome State Fault Refusal :=
  emitFrame .standard (.frameRemoteStd id) s

/-- `FRAME.DATA.EXT` (R60): `AA`, ConfigByte `1110LLLL`, four identifier bytes, `L` payload bytes, `55`. -/
def execFrameDataExt (id : BitVec 32) (payload : List Byte) (s : State) :
    Host.Outcome State Fault Refusal :=
  emitFrame .extended (.frameDataExt id payload) s

/-- `FRAME.REMOTE.EXT` (R60): `AA`, ConfigByte `11110000`, four identifier bytes, `55`. -/
def execFrameRemoteExt (id : BitVec 32) (s : State) : Host.Outcome State Fault Refusal :=
  emitFrame .extended (.frameRemoteExt id) s

end Sys2Proof.Machine
end

