-- ==== Sys2Proof/Machine/LifeCycle.lean ====
section
/-! DEFINITION. The life-cycle family (42_lifecycle.md): NEW and CLOSE. -/

namespace Sys2Proof.Machine

/-- NEW (R110): the block is configured once, with no I/O. Refused once a Converter exists (R13). -/
def execNew (k : IdKind) (s : State) : Host.Outcome State Fault Refusal :=
  match s.life with
  | .unconfigured => .next (((s.setIdKind k).setLife .opened).completeCtl .ok)
  | .opened => .refused (.lifeCycle .new)
  | .closed => .refused (.lifeCycle .new)

/-- A RECEIVE in flight completes with `TransportError` at its current read (R111 case (c), R147);
with none in flight nothing happens. -/
def State.abortReceive (s : State) : State :=
  if s.rxPhase = .idle then s else s.raise .rxc .transportError

/-- CLOSE (R111): the transport is closed once. A second CLOSE does nothing but complete (case (a)). A
SEND that waits in its write keeps waiting: its one write is not cut short by CLOSE (case (c),
assumption 7: DEDUCED, unsafe). A RECEIVE in flight ends in the same step (assumption 13: DEDUCED). -/
def execClose (s : State) : Host.Outcome State Fault Refusal :=
  match s.life with
  | .unconfigured => .refused (.lifeCycle .close)
  | .opened => .next (((s.strobeClose.setLife .closed).abortReceive).completeCtl .ok)
  | .closed => .next (s.completeCtl .ok)

end Sys2Proof.Machine
end

