-- ==== Sys2Proof/Machine/Dispatch.lean ====
section
/-! DEFINITION. `exec`: one arm per constructor of `Instr`, one direct call of a meaning each. -/

namespace Sys2Proof.Machine

def exec (i : Instr) (s : State) : Host.Outcome State Fault Refusal :=
  match i with
  | .frameDataStd id payload => Sys2Proof.Machine.execFrameDataStd id payload s
  | .frameRemoteStd id => Sys2Proof.Machine.execFrameRemoteStd id s
  | .frameDataExt id payload => Sys2Proof.Machine.execFrameDataExt id payload s
  | .frameRemoteExt id => Sys2Proof.Machine.execFrameRemoteExt id s
  | .rxframeData ignored id payload => Sys2Proof.Machine.execRxframeData ignored id payload s
  | .rxframeRemote ignored id payload => Sys2Proof.Machine.execRxframeRemote ignored id payload s
  | .new kind => Sys2Proof.Machine.execNew kind s
  | .send ftype id payload => Sys2Proof.Machine.execSend ftype id payload s
  | .receive => Sys2Proof.Machine.execReceive s
  | .close => Sys2Proof.Machine.execClose s

end Sys2Proof.Machine
end

