-- ==== Sys2Proof/Machine/Operands.lean ====
section
/-! DEFINITION. The operand and result forms: the derived length registers (`TX_PLEN`, `RX_PLEN`),
what the host reads (R16, R17, R18), and a payload given as a string of hex digits (R64, R78). -/

namespace Sys2Proof.Machine

/-- `TX_PLEN` (R15): the number of payload bytes presented, any natural number. -/
def State.txPlen (s : State) : Nat :=
  s.txPayload.length

/-- `RX_PLEN` (R16): 4 bits. -/
def State.rxPlen (s : State) : BitVec 4 :=
  BitVec.ofNat 4 s.rxPayload.length

/-- What a host read returns. -/
inductive HostValue where
  | status (value : Status)
  | ftype (value : FrameType)
  | ident (value : Word)
  | plen (value : BitVec 4)
  | payload (value : List Byte)
  deriving DecidableEq, Repr

/-- Whether a register is in its validity window (R18). -/
def State.holdsValue (s : State) : HostReg → Bool
  | .ctlStatus => s.ctlStatusValid
  | .txStatus => s.txStatusValid
  | .rxStatus => s.rxStatusValid
  | .rxFtype => s.rxFrameValid
  | .rxId => s.rxFrameValid
  | .rxPlen => s.rxFrameValid
  | .rxPayload => s.rxFrameValid

/-- What a register stores. -/
def State.stored (s : State) : HostReg → HostValue
  | .ctlStatus => .status s.ctlStatus
  | .txStatus => .status s.txStatus
  | .rxStatus => .status s.rxStatus
  | .rxFtype => .ftype s.rxFtype
  | .rxId => .ident s.rxId
  | .rxPlen => .plen s.rxPlen
  | .rxPayload => .payload s.rxPayload

/-- What the host sees in a register: its value inside the validity window, nothing outside (R18). -/
def State.visible (s : State) (r : HostReg) : Option HostValue :=
  if s.holdsValue r then some (s.stored r) else none

/-- Digits taken in pairs, left to right, the first the high nibble (R78). -/
def pairDigits : List Nibble → List Byte
  | hi :: lo :: rest => (hi ++ lo : BitVec 8) :: pairDigits rest
  | _ => []

/-- A payload given as hex digits: a string of odd length gets one `0` digit in front (R78;
assumption 16: DESIGN CHOICE, safe). -/
def hexPayload (digits : List Nibble) : List Byte :=
  pairDigits (if digits.length % 2 = 1 then 0#4 :: digits else digits)

end Sys2Proof.Machine
end

