-- ==== Sys2Proof/Machine/Events.lean ====
section
/-! DEFINITION. What each event does to the machine: the fetch of an instruction from the place its
port says (a command message, the burst in flight, the frame at the RX cursor) and its run by `exec`;
and the answers of the transport that are no instruction (a short read, a failed call). -/

namespace Sys2Proof.Machine

/-- Fetch: the instruction that bytes are on a port runs; bytes that are none are refused by name. -/
def runDecoded (p : Port) (bytes : List Byte) (s : State) : Host.Outcome State Fault Refusal :=
  match decode p bytes with
  | .ok i => exec i s
  | .error r => .refused (.undecodable r)

/-- The transport takes the burst in flight, and the frame form it is runs; with no SEND in flight
there is no write to complete. -/
def State.completeWrite (s : State) : Host.Outcome State Fault Refusal :=
  match s.txPending with
  | none => .next s
  | some burst => runDecoded .txBurst burst s

/-- The transport fails the write (R35, R126): a prefix of the burst is on the TX stream and SEND
completes with `TransportError`. -/
def State.failWrite (delivered : Nat) (s : State) : State :=
  match s.txPending with
  | none => s
  | some burst => (s.deliver delivered burst).raise .txc .transportError

/-- The bytes of the frame at the RX cursor, if all of them have arrived (R58). -/
def State.frameAtCursor (s : State) : Option (List Byte) :=
  match receivedLength s.idKind s.rxStream with
  | none => none
  | some n => if n ≤ s.rxStream.length then some (s.rxStream.take n) else none

/-- The transport serves the decoder in full. A RECEIVE that stands at the start of a whole frame
runs the frame's class; in every other case (no frame there, part of one, RECEIVE already inside one)
the bytes are gathered for as far as they go. -/
def State.serveReads (s : State) : Host.Outcome State Fault Refusal :=
  if s.rxPhase = .start then
    match s.frameAtCursor with
    | none => .next s.drain
    | some bytes =>
      match decode (.rxStream s.idKind) bytes with
      | .ok i => exec i s
      | .error _ => .next s.drain
  else .next s.drain

/-- The host reads a register: a fault outside its validity window (R18, U16). What it sees inside is
`State.visible`; a read changes nothing. -/
def State.hostRead (r : HostReg) (s : State) : Host.Outcome State Fault Refusal :=
  if s.holdsValue r then .next s else .fault (.readOutsideWindow r)

/-- One event. -/
def handle (e : Event) (s : State) : Host.Outcome State Fault Refusal :=
  match e with
  | .issue message => runDecoded .command message s
  | .issueHex ft id digits => exec (.send ft id (hexPayload digits)) s
  | .writeDone => s.completeWrite
  | .writeFails delivered => .next (s.failWrite delivered)
  | .readReturns count => .next (s.readReturns count)
  | .readFails => .next s.abortReceive
  | .readAll => s.serveReads
  | .arrive bytes => .next (s.arrive bytes)
  | .hostRead r => s.hostRead r
  | .reset delivered => .next (s.assertReset delivered)

/-- The next event happens; with none left no actor moves and the block stands still (R132: an idle
block is one with no operation in flight; R146: a blocked operation is a stuck agent). -/
def runNext (s : State) : Host.Outcome State Fault Refusal :=
  match s.events with
  | [] => .next s
  | e :: es => handle e (s.withEvents es)

/-- The boot order of R142 behind it: a Converter exists, with the kind stored, if none did. -/
def State.withConverter (s : State) : State :=
  if s.life = .unconfigured then s.setLife .opened else s

/-- What a placed message needs: SEND, RECEIVE and CLOSE have a meaning only once a Converter exists
(R13, R142). -/
def State.readyFor (message : List Byte) (s : State) : State :=
  match decode .command message with
  | .ok (.new _) => s
  | .ok _ => s.withConverter
  | .error _ => s

/-- The place of a word of the opcode table (assumption 12: DESIGN CHOICE, safe). An operation is the caller's next message,
in a block that has a Converter where the operation needs one. A frame form is the burst of a
SEND in flight, in a block of the frame's kind, whose write completes next. A received class is
the frame at the cursor of a RECEIVE in flight, whose reads are served next. -/
def placeWord (nbits w : Nat) (s : State) : State :=
  match tableWord s.idKind nbits w with
  | (.command, bytes) => (s.readyFor bytes).withEvents (.issue bytes :: s.events)
  | (.txBurst, bytes) =>
    (((s.setLife .opened).setIdKind (burstKind bytes)).holdBurst bytes).withEvents (.writeDone :: s.events)
  | (.rxStream _, bytes) =>
    { (s.setLife .opened).startDecode with
      rxStream := bytes ++ s.rxStream, events := .readAll :: s.events }

end Sys2Proof.Machine
end

