-- ==== Sys2Proof/Machine/Step.lean ====
section
/-! DEFINITION. One step of the machine, and the placing of a word of the opcode table where the next
step fetches. Both only call Machine/Events.lean. -/

namespace Sys2Proof.Machine

/-- One step: the next event of the caller or the transport happens. -/
def step (s : State) : Host.Outcome State Fault Refusal :=
  runNext s

/-- `s` with a word of the opcode table placed where `step` fetches its next instruction. -/
def State.withFetchWord (s : State) (nbits w : Nat) : State :=
  placeWord nbits w s

end Sys2Proof.Machine
end

