-- ==== Sys2Proof/Machine/Run.lean ====
section
/-! DEFINITION. When a run of operations is over and what its end is (R152, decision D29; the reading of
refused operations and of reset, and ID_KIND where no Converter is, are assumption 20: DESIGN CHOICE), over the
operation an event issues and the life-cycle table of R13. `step` uses none of it: a block with a blocked
operation stands still just as one whose run is over, and `State.runOver` tells the two apart. -/

namespace Sys2Proof.Machine

/-- The operation an instruction is (R61); a frame form or class is none. -/
def operationOf : Instr → Option Operation
  | .frameDataStd _ _ => none
  | .frameRemoteStd _ => none
  | .frameDataExt _ _ => none
  | .frameRemoteExt _ => none
  | .rxframeData _ _ _ => none
  | .rxframeRemote _ _ _ => none
  | .new _ => some .new
  | .send _ _ _ => some .send
  | .receive => some .receive
  | .close => some .close

/-- The operation an event issues: only the caller's events do. -/
def Event.operation : Event → Option Operation
  | .issue message =>
    match decode .command message with
    | .ok i => operationOf i
    | .error _ => none
  | .issueHex _ _ _ => some .send
  | .writeDone => none
  | .writeFails _ => none
  | .readReturns _ => none
  | .readFails => none
  | .readAll => none
  | .arrive _ => none
  | .hostRead _ => none
  | .reset _ => none

/-- "refused" in the life-cycle table of R13. -/
def Life.refuses : Life → Operation → Bool
  | .unconfigured, .new => false
  | .unconfigured, .send => true
  | .unconfigured, .receive => true
  | .unconfigured, .close => true
  | .opened, .new => true
  | .opened, .send => false
  | .opened, .receive => false
  | .opened, .close => false
  | .closed, .new => true
  | .closed, .send => false
  | .closed, .receive => false
  | .closed, .close => false

/-- No operation is in flight: no SEND waits in its write and no RECEIVE is in flight. Those issued so far
have completed, were refused, or were abandoned by reset; one that reset abandoned has no status (R140), and
R152 does not say whether it keeps a run from being over: here it counts as done (assumption 20: DESIGN
CHOICE, unsafe for a claim on such a run). -/
def State.noneInFlight (s : State) : Bool :=
  s.txPending.isNone && decide (s.rxPhase = .idle)

/-- Every operation among these events is refused in a block whose `LIFE` is `l` before them: a refused
operation changes nothing (R14), and the reset input makes the block `Unconfigured` (R140). -/
def allRefused (l : Life) : List Event → Bool
  | [] => true
  | e :: es =>
    match e with
    | .reset _ => allRefused .unconfigured es
    | _ =>
      match e.operation with
      | none => allRefused l es
      | some op => l.refuses op && allRefused l es

/-- The run is over: every operation issued has completed, and those the caller still issues are all
refused (R152). With an operation blocked it is not over. -/
def State.runOver (s : State) : Bool :=
  s.noneInFlight && allRefused s.life s.events

/-- The state at the end of a run (R152): `LIFE`, `ID_KIND`, the last status and results on each channel
where they hold a value (R18), the TX stream, the RX cursor. -/
structure RunEnd where
  life : Life
  idKind : IdKind
  ctlStatus : Option Status
  txStatus : Option Status
  rxStatus : Option Status
  rxFrame : Option (FrameType × Word × List Byte)
  txBursts : List (List Byte)
  rxCursor : Nat
  deriving DecidableEq, Repr

/-- What `s` holds of the end of a run. R152 lists `ID_KIND`, which has no value before NEW (R12, R25): of a
run that ends `Unconfigured` this shows the stored one (assumption 20: DESIGN CHOICE, unsafe for a claim on
that value). -/
def State.runEnd (s : State) : RunEnd where
  life := s.life
  idKind := s.idKind
  ctlStatus := if s.ctlStatusValid then some s.ctlStatus else none
  txStatus := if s.txStatusValid then some s.txStatus else none
  rxStatus := if s.rxStatusValid then some s.rxStatus else none
  rxFrame := if s.rxFrameValid then some (s.rxFtype, s.rxId, s.rxPayload) else none
  txBursts := s.txBursts
  rxCursor := s.rxCursor

end Sys2Proof.Machine
end

