-- ==== Sys2Proof/Safety.lean ====
section
/-! DEFINITION. What claims are stated in: the invariant of the machine, which holds at reset and is
kept by every step whatever the caller and the transport do; and which events belong to which agent (R134, R135). -/

namespace Sys2Proof.Machine

/-- The invariant. Each field says what rules out states no run reaches. -/
structure State.Inv (s : State) : Prop where
  /-- before NEW nothing is in flight and nothing holds a value (R13, R25) -/
  unconfigured_clean : s.life = .unconfigured →
    s.rxPhase = .idle ∧ s.txPending = none ∧ s.ctlStatusValid = false ∧ s.txStatusValid = false ∧
      s.rxStatusValid = false ∧ s.rxFrameValid = false
  /-- a RECEIVE is in flight only while the transport is open (R13, R102, R147) -/
  receive_needs_open : s.rxPhase ≠ .idle → s.life = .opened
  /-- one byte is read for the start marker and one for the ConfigByte (R37) -/
  start_reads_one : s.rxPhase = .start ∨ s.rxPhase = .config → s.rxCnt = 1
  /-- in `ID` between one and `ws(ID_KIND)` bytes are missing, and only those gathered are in the
  accumulator (R94) -/
  ident_progress : s.rxPhase = .ident →
    1 ≤ s.rxCnt ∧ s.rxCnt ≤ wireSize s.idKind ∧
      s.rxAcc.toNat < 2 ^ (8 * (wireSize s.idKind - s.rxCnt)) ∧ s.rxGathered = []
  /-- in `PAYLOAD` the gathered and the missing bytes are those the ConfigByte says (R95) -/
  payload_progress : s.rxPhase = .payload →
    1 ≤ s.rxCnt ∧ s.rxGathered.length + s.rxCnt = configLen s.rxCfg ∧ idFits s.idKind s.rxAcc
  /-- in `END` the payload is complete and one byte is missing (R96) -/
  end_progress : s.rxPhase = .endMark →
    s.rxCnt = 1 ∧ s.rxGathered.length = configLen s.rxCfg ∧ idFits s.idKind s.rxAcc
  /-- the bytes asked for are never more than 15 (R21, R90) -/
  count_bounded : s.rxPhase ≠ .idle → s.rxCnt ≤ 15
  /-- while a RECEIVE is in flight its results hold no value (R18) -/
  receive_windows : s.rxPhase ≠ .idle → s.rxStatusValid = false ∧ s.rxFrameValid = false
  /-- while a SEND is in flight its status holds no value (R18) -/
  send_window : s.txPending.isSome → s.txStatusValid = false
  /-- the burst of a SEND in flight is the frame of its operands (R77) -/
  pending_frame : ∀ burst, s.txPending = some burst →
    encodeWire s.txFtype s.txId s.txPayload s.idKind = .ok burst
  /-- the frame results hold a value exactly when RECEIVE completed `OK` (R16, R101) -/
  results_when_ok : s.rxFrameValid = (s.rxStatusValid && decide (s.rxStatus = .ok))
  /-- the result of a RECEIVE has at most 15 payload bytes and an identifier of the kind's width (R16) -/
  results_bounded : s.rxFrameValid → s.rxPayload.length ≤ 15 ∧ idFits s.idKind s.rxId
  /-- SEND completes with no status of the decoder (R17) -/
  tx_status_produced : s.txStatusValid → s.txStatus ≠ .badStartByte ∧ s.txStatus ≠ .badEndByte
  /-- RECEIVE completes with no status of the encoder (R17) -/
  rx_status_produced : s.rxStatusValid →
    s.rxStatus ≠ .remoteFrameWithPayload ∧ s.rxStatus ≠ .idTooLarge ∧ s.rxStatus ≠ .payloadTooLarge
  /-- NEW and CLOSE complete with `OK` only (R110, R111) -/
  ctl_status_produced : s.ctlStatusValid → s.ctlStatus = .ok
  /-- every burst on the TX stream is a frame the encoder makes, or the prefix of one that a failed
  write or a reset left (R34, R35, R140) -/
  bursts_framed : ∀ burst ∈ s.txBursts, burst ≠ [] ∧
    ∃ k ft id payload frame, encodeWire ft id payload k = .ok frame ∧ burst <+: frame

/-- The event is the encoder's (R134): a SEND is issued, or the transport ends its write. -/
def Event.isTransmit : Event → Bool
  | .issue message =>
    match decode .command message with
    | .ok (.send _ _ _) => true
    | _ => false
  | .issueHex _ _ _ => true
  | .writeDone => true
  | .writeFails _ => true
  | _ => false

/-- The event is the decoder's (R134): RECEIVE is issued, the transport answers or fails its read,
bytes arrive. -/
def Event.isReceive : Event → Bool
  | .issue message =>
    match decode .command message with
    | .ok .receive => true
    | _ => false
  | .readReturns _ => true
  | .readFails => true
  | .readAll => true
  | .arrive _ => true
  | _ => false

end Sys2Proof.Machine
end

