-- ==== Sys2Proof/Certificates/Slice0/Obligations.lean ====
section
/-! DEFINITION. The statements for the provers. Each docstring says which rule of spec/ it
formalises; a clause that is a decision of the spec ("the spec's own choice", 92_eei_decisions.md) or of
this model says so. A next state is given whole, as `s` with the fields that change, so a result
statement is its own frame: whatever is not named is unchanged. -/

open Sys2Proof Sys2Proof.Machine

/-! ### The wire encoding -/

/-- R52: bits 7:6 are 1, EXT=1 iff Extended, REMOTE=1 iff Remote, L3..L0 is the payload length. -/
def Obligations.ConfigByteLayout : Prop :=
  ∀ (k : IdKind) (ft : FrameType) (len : Nat), len ≤ 15 →
    (configByte k ft len).getLsbD 7 = true ∧ (configByte k ft len).getLsbD 6 = true ∧
      ((configByte k ft len).getLsbD 5 = true ↔ k = .extended) ∧
      ((configByte k ft len).getLsbD 4 = true ↔ ft = .remote) ∧
      ((configByte k ft len).extractLsb' 0 4).toNat = len

/-- R70: the fewest bytes that represent the identifier, 0 for 0. -/
def Obligations.ByteSizeHelperMinimal : Prop :=
  byteSizeHelper 0#32 = 0 ∧ ∀ v : Word, v.toNat < 256 ^ byteSizeHelper v ∧
    ∀ n : Nat, v.toNat < 256 ^ n → byteSizeHelper v ≤ n

/-- R54: identifier bytes least significant first, and back, zero-extended to 32 bits. -/
def Obligations.IdentifierLeastSignificantFirst : Prop :=
  (∀ (k : IdKind) (id : Word), (idBytes (wireSize k) id).length = wireSize k ∧
    (∀ j, j < wireSize k → (idBytes (wireSize k) id)[j]? = some ((id >>> (8 * j)).setWidth 8)) ∧
    (id.toNat < 2 ^ (8 * wireSize k) → idOfBytes (idBytes (wireSize k) id) = id)) ∧
  ∀ bytes : List Byte, bytes.length ≤ 4 → (idOfBytes bytes).toNat =
    ((List.range bytes.length).map fun j => (bytes.getD j 0#8).toNat * 2 ^ (8 * j)).sum

/-- R50, R76: ENCODE gives exactly this byte sequence, for exactly the operands that pass the three
checks. That the identifier check is by byte count only is the spec's decision D10. -/
def Obligations.EncodeFrameExact : Prop :=
  ∀ (ft : FrameType) (id : Word) (p : List Byte) (k : IdKind) (f : List Byte),
    encodeWire ft id p k = .ok f ↔
      (ft = .remote → p = []) ∧ id.toNat < 2 ^ (8 * wireSize k) ∧ p.length ≤ 15 ∧
        f = [0xAA#8] ++ [configByte k ft p.length] ++ idBytes (wireSize k) id ++ p ++ [0x55#8]

/-- R56: payload byte `j` is frame byte `2 + W + j`, unchanged; the decoder returns the payload bytes of
a frame in the order of the wire. -/
def Obligations.PayloadVerbatim : Prop :=
  (∀ (ft : FrameType) (id : Word) (p f : List Byte) (k : IdKind), encodeWire ft id p k = .ok f →
    ∀ j, j < p.length → f[2 + wireSize k + j]? = p[j]?) ∧
  ∀ (cfg : Byte) (ids p rest : List Byte) (s : State), s.rxPhase = .start →
    s.rxStream = 0xAA#8 :: cfg :: (ids ++ p ++ 0x55#8 :: rest) → ids.length = wireSize s.idKind →
    p.length = (cfg.extractLsb' 0 4).toNat →
      ∃ t, step (s.withEvents [.readAll]) = .next t ∧ t.rxFrameValid = true ∧ t.rxPayload = p

/-- R72: each error exactly when its check is the first that fails. The priority is the spec's
decision D23, the byte-count check its decision D10. -/
def Obligations.EncodeErrorFirstFailing : Prop :=
  ∀ (ft : FrameType) (id : Word) (p : List Byte) (k : IdKind) (e : Status),
    encodeWire ft id p k = .error e ↔
      (e = .remoteFrameWithPayload ∧ ft = .remote ∧ p ≠ []) ∨
      (e = .idTooLarge ∧ (ft = .remote → p = []) ∧ k = .standard ∧ 0xFFFF < id.toNat) ∨
      (e = .payloadTooLarge ∧ ft = .data ∧ (k = .standard → id.toNat ≤ 0xFFFF) ∧ 15 < p.length)

/-- R51 (derived in the spec from R50): a frame has `3 + W + L` bytes, 5 to 20 or 7 to 22. -/
def Obligations.FrameLength : Prop :=
  ∀ (ft : FrameType) (id : Word) (p : List Byte) (k : IdKind) (f : List Byte),
    encodeWire ft id p k = .ok f →
      f.length = 3 + wireSize k + p.length ∧ (k = .standard → 5 ≤ f.length ∧ f.length ≤ 20) ∧
        (k = .extended → 7 ≤ f.length ∧ f.length ≤ 22)

/-- R53 (derived in the spec): the ConfigByte values the encoder can produce are exactly these 34. -/
def Obligations.ProducedConfigBytes : Prop :=
  ∀ c : Byte, (∃ ft id p k f, encodeWire ft id p k = .ok f ∧ f[1]? = some c) ↔
    (0xC0 ≤ c.toNat ∧ c.toNat ≤ 0xCF) ∨ c = 0xD0#8 ∨ (0xE0 ≤ c.toNat ∧ c.toNat ≤ 0xEF) ∨ c = 0xF0#8

/-- R79(f) (derived in the spec): two different valid operands give two different frames. -/
def Obligations.EncodeInjective : Prop :=
  ∀ (k : IdKind) (ft ft' : FrameType) (id id' : Word) (p p' : List Byte) (f : List Byte),
    encodeWire ft id p k = .ok f → encodeWire ft' id' p' k = .ok f → ft = ft' ∧ id = id' ∧ p = p'

/-- R60: the rows of both frame tables by match and mask; a received ConfigByte is of exactly one
class. -/
def Obligations.FrameRowsByMask : Prop :=
  ∀ c : Byte,
    (emittedForm c = some (.standard, .data) ↔ c &&& 0xF0#8 = 0xC0#8) ∧
    (emittedForm c = some (.standard, .remote) ↔ c &&& 0xFF#8 = 0xD0#8) ∧
    (emittedForm c = some (.extended, .data) ↔ c &&& 0xF0#8 = 0xE0#8) ∧
    (emittedForm c = some (.extended, .remote) ↔ c &&& 0xFF#8 = 0xF0#8) ∧
    (configFtype c = .data ↔ c &&& 0x10#8 = 0x00#8) ∧
    (configFtype c = .remote ↔ c &&& 0x10#8 = 0x10#8)

/-- Decode and encode agree on every well-formed instruction, on its port: no bit of an encoding is
dropped. The layout of command messages is the model's (assumption 3). -/
def Obligations.DecodeEncodeAgree : Prop :=
  ∀ (k : IdKind) (i : Instr), wellFormed k i = true → decode (i.port k) (encode k i) = .ok i

/-- Each byte sequence of a port has one meaning: what decodes is well-formed and encodes to the same
bytes. The layout of command messages is the model's (assumption 3). -/
def Obligations.EncodeDecodeAgree : Prop :=
  ∀ (k : IdKind) (p : Port) (bytes : List Byte) (i : Instr),
    p = .command ∨ p = .txBurst ∨ p = .rxStream k → decode p bytes = .ok i →
      wellFormed k i = true ∧ i.port k = p ∧ encode k i = bytes

/-- One word of each row decodes to the instruction it stands for. The frames are written out from the spec:
the source's scenarios A and B (95_test_vectors.md S1, S2), vectors EV8, EV9, DV6, DV7. Of the operations
the spec gives the selectors alone (R62); the operand bytes behind them are the model's layout
(assumption 3: DESIGN CHOICE). -/
def Obligations.SpecWordsDecode : Prop :=
  decode .txBurst [0xAA, 0xC3, 0xFF, 0x07, 0x01, 0x02, 0x03, 0x55]
      = .ok (.frameDataStd 0x07FF [0x01, 0x02, 0x03]) ∧
    decode .txBurst [0xAA, 0xD0, 0x20, 0x00, 0x55] = .ok (.frameRemoteStd 0x0020) ∧
    decode .txBurst [0xAA, 0xE4, 0x78, 0x56, 0x34, 0x12, 0xDE, 0xAD, 0xBE, 0xEF, 0x55]
      = .ok (.frameDataExt 0x12345678 [0xDE, 0xAD, 0xBE, 0xEF]) ∧
    decode .txBurst [0xAA, 0xF0, 0xFF, 0xFF, 0xFF, 0x1F, 0x55] = .ok (.frameRemoteExt 0x1FFFFFFF) ∧
    decode (.rxStream .standard) [0xAA, 0xE3, 0xFF, 0x07, 0x01, 0x02, 0x03, 0x55]
      = .ok (.rxframeData 0b111 0x7FF [0x01, 0x02, 0x03]) ∧
    decode (.rxStream .standard) [0xAA, 0xD2, 0x20, 0x00, 0x01, 0x02, 0x55]
      = .ok (.rxframeRemote 0b110 0x20 [0x01, 0x02]) ∧
    decode .command [0b00, 1] = .ok (.new .extended) ∧
    decode .command [0b01, 0, 0xFF, 0x07, 0, 0, 1, 2, 3] = .ok (.send .data 0x7FF [1, 2, 3]) ∧
    decode .command [0b10] = .ok .receive ∧ decode .command [0b11] = .ok .close

/-- R11, R17, R20: the codes of the registers (the spec's decisions D3, D5, D6). -/
def Obligations.RegisterCodes : Prop :=
  [Life.unconfigured, .opened, .closed].map Life.code = [0#2, 1#2, 2#2] ∧
    [Status.ok, .remoteFrameWithPayload, .idTooLarge, .payloadTooLarge, .badStartByte, .badEndByte,
      .transportError].map Status.code = [0#3, 1#3, 2#3, 3#3, 4#3, 5#3, 6#3] ∧
    [Phase.idle, .start, .config, .ident, .payload, .endMark].map Phase.code
      = [0#3, 1#3, 2#3, 3#3, 4#3, 5#3]

/-- R78: a hex string of odd length gets one `0` digit in front, then each pair of digits is a byte, the
first digit its high nibble; SEND sees the bytes. -/
def Obligations.HexPayloadNormalised : Prop :=
  (∀ ds : List Nibble, (hexPayload ds).length = (ds.length + 1) / 2 ∧
    (hexPayload ds).flatMap (fun b => [b.extractLsb' 4 4, b.extractLsb' 0 4])
      = if ds.length % 2 = 1 then 0#4 :: ds else ds) ∧
  ∀ (ft : FrameType) (id : Word) (ds : List Nibble) (es : List Event) (s : State),
    step (s.withEvents (.issueHex ft id ds :: es))
      = exec (.send ft id (hexPayload ds)) (s.withEvents es)

/-! ### The life cycle -/

/-- R110: NEW configures the block once and does no I/O. That a later NEW is refused is the spec's
decision D7. -/
def Obligations.NewConfigures : Prop :=
  ∀ (k : IdKind) (s : State),
    (s.life = .unconfigured → exec (.new k) s = .next
      { s with idKind := k, life := .opened, ctlStatus := .ok, ctlStatusValid := true }) ∧
    (s.life ≠ .unconfigured → exec (.new k) s = .refused (.lifeCycle .new))

/-- R13, R14: SEND, RECEIVE and CLOSE before NEW have no meaning, so no next state (the spec's
decision D7). -/
def Obligations.RefusedBeforeNew : Prop :=
  ∀ s : State, s.life = .unconfigured →
    (∀ (ft : FrameType) (id : Word) (p : List Byte),
      exec (.send ft id p) s = .refused (.lifeCycle .send)) ∧
    exec .receive s = .refused (.lifeCycle .receive) ∧ exec .close s = .refused (.lifeCycle .close)

/-- R111: CLOSE closes the transport once. A RECEIVE in flight completes with `TransportError` (the
spec's decision D25), within the step of CLOSE itself (this model's reading, assumption 13); a second
CLOSE does nothing but complete (its decision D8); a SEND that waits in its write keeps waiting (this
model's reading of R111 case (c), assumption 7). The bits that the dead working state (R21) and the registers
behind closed windows still store are the model's (assumptions 21 and 5: DESIGN CHOICE). -/
def Obligations.CloseEndsTransport : Prop :=
  ∀ s : State,
    (s.life = .opened → s.rxPhase = .idle → exec .close s = .next
      { s with life := .closed, closeStrobes := s.closeStrobes + 1, ctlStatus := .ok,
               ctlStatusValid := true }) ∧
    (s.life = .opened → s.rxPhase ≠ .idle → exec .close s = .next
      { s with life := .closed, closeStrobes := s.closeStrobes + 1, ctlStatus := .ok,
               ctlStatusValid := true, rxPhase := .idle, rxStatus := .transportError,
               rxStatusValid := true, rxFrameValid := false }) ∧
    (s.life = .closed → exec .close s = .next { s with ctlStatus := .ok, ctlStatusValid := true })

/-- R12: `ID_KIND` is written by NEW in an unconfigured block and by reset, and by nothing else. -/
def Obligations.KindFixedAfterNew : Prop :=
  ∀ s t : State, step s = .next t → t.idKind ≠ s.idKind →
    (∃ m k es, s.events = .issue m :: es ∧ decode .command m = .ok (.new k) ∧
      s.life = .unconfigured ∧ t.idKind = k) ∨
    (∃ n es, s.events = .reset n :: es)

/-- R11, R13: `LIFE` moves by NEW from `Unconfigured` to `Open`, by CLOSE from `Open` to `Closed`, and by
reset to `Unconfigured`, and in no other way. -/
def Obligations.LifeMoves : Prop :=
  ∀ s t : State, step s = .next t → t.life ≠ s.life →
    (∃ m k es, s.events = .issue m :: es ∧ decode .command m = .ok (.new k) ∧
      s.life = .unconfigured ∧ t.life = .opened) ∨
    (∃ m es, s.events = .issue m :: es ∧ decode .command m = .ok .close ∧
      s.life = .opened ∧ t.life = .closed) ∨
    (∃ n es, s.events = .reset n :: es ∧ t.life = .unconfigured)

/-! ### The encoder -/

/-- R77: SEND of a valid frame on an open Converter waits in the write of exactly that frame; nothing is on
the TX stream yet. That it waits until a later step is the model's (assumption 8), and so is that the
host's write of the operand registers is part of its issue (R15, assumption 9); that `TX_STATUS` then holds
no value is R18 (the spec's decision D2), and that it stores its old bits is the model's (assumption 5). -/
def Obligations.SendValidWaitsInWrite : Prop :=
  ∀ (ft : FrameType) (id : Word) (p f : List Byte) (s : State),
    s.life = .opened → s.txPending = none → encodeWire ft id p s.idKind = .ok f →
      exec (.send ft id p) s = .next
        { s with txFtype := ft, txId := id, txPayload := p, txStatusValid := false,
                 txPending := some f }

/-- R77, R127(a): SEND of a valid frame on a closed Converter completes with `TransportError` and
writes nothing. That the TX operand registers then store the operands is the model's (assumption 9: DESIGN
CHOICE): SEND itself never writes them (R15), and after it they hold no value (R18). -/
def Obligations.SendOnClosedConverter : Prop :=
  ∀ (ft : FrameType) (id : Word) (p f : List Byte) (s : State),
    s.life = .closed → s.txPending = none → encodeWire ft id p s.idKind = .ok f →
      exec (.send ft id p) s = .next
        { s with txFtype := ft, txId := id, txPayload := p, txStatus := .transportError,
                 txStatusValid := true }

/-- R121 to R123, R126: an invalid frame completes SEND at once with its encode error, whether the
Converter is open or closed (the spec's decision D15), and nothing is written. The order of the checks
is its decision D23. That the TX operand registers then store the operands is the model's (assumption 9:
DESIGN CHOICE): SEND itself never writes them (R15), and after it they hold no value (R18). -/
def Obligations.SendInvalidReportsEncodeError : Prop :=
  ∀ (ft : FrameType) (id : Word) (p : List Byte) (s : State),
    s.life ≠ .unconfigured → s.txPending = none →
      (ft = .remote → p ≠ [] → exec (.send ft id p) s = .next
        { s with txFtype := ft, txId := id, txPayload := p, txStatus := .remoteFrameWithPayload,
                 txStatusValid := true }) ∧
      ((ft = .remote → p = []) → s.idKind = .standard → 0xFFFF < id.toNat →
        exec (.send ft id p) s = .next
          { s with txFtype := ft, txId := id, txPayload := p, txStatus := .idTooLarge,
                   txStatusValid := true }) ∧
      (ft = .data → (s.idKind = .standard → id.toNat ≤ 0xFFFF) → 15 < p.length →
        exec (.send ft id p) s = .next
          { s with txFtype := ft, txId := id, txPayload := p, txStatus := .payloadTooLarge,
                   txStatusValid := true })

/-- R33, R60: each emitted frame form, when a SEND of a block of its kind holds it, is appended to the
TX stream as one burst and completes that SEND with `OK`. That the form is the later write of a SEND that
waits is the model's (assumption 8: DESIGN CHOICE), and so is that the SEND may still wait, and is written and
completes `OK`, after CLOSE (assumption 7: DEDUCED). -/
def Obligations.EmittedFormsWritten : Prop :=
  ∀ s : State,
    (∀ (id : BitVec 16) (p : List Byte), s.idKind = .standard → p.length ≤ 15 →
      s.txPending = some ([0xAA#8, configByte .standard .data p.length]
        ++ idBytes 2 (id.setWidth 32) ++ p ++ [0x55#8]) →
      exec (.frameDataStd id p) s = .next
        { s with txBursts := s.txBursts ++ [[0xAA#8, configByte .standard .data p.length]
                   ++ idBytes 2 (id.setWidth 32) ++ p ++ [0x55#8]],
                 txPending := none, txStatus := .ok, txStatusValid := true }) ∧
    (∀ id : BitVec 16, s.idKind = .standard →
      s.txPending = some ([0xAA#8, 0xD0#8] ++ idBytes 2 (id.setWidth 32) ++ [0x55#8]) →
      exec (.frameRemoteStd id) s = .next
        { s with txBursts := s.txBursts ++ [[0xAA#8, 0xD0#8] ++ idBytes 2 (id.setWidth 32) ++ [0x55#8]],
                 txPending := none, txStatus := .ok, txStatusValid := true }) ∧
    (∀ (id : BitVec 32) (p : List Byte), s.idKind = .extended → p.length ≤ 15 →
      s.txPending = some ([0xAA#8, configByte .extended .data p.length]
        ++ idBytes 4 id ++ p ++ [0x55#8]) →
      exec (.frameDataExt id p) s = .next
        { s with txBursts := s.txBursts ++ [[0xAA#8, configByte .extended .data p.length]
                   ++ idBytes 4 id ++ p ++ [0x55#8]],
                 txPending := none, txStatus := .ok, txStatusValid := true }) ∧
    (∀ id : BitVec 32, s.idKind = .extended →
      s.txPending = some ([0xAA#8, 0xF0#8] ++ idBytes 4 id ++ [0x55#8]) →
      exec (.frameRemoteExt id) s = .next
        { s with txBursts := s.txBursts ++ [[0xAA#8, 0xF0#8] ++ idBytes 4 id ++ [0x55#8]],
                 txPending := none, txStatus := .ok, txStatusValid := true })

/-- R34: one SEND, one write. A valid frame, once the transport takes it, is on the TX stream as one
burst, the complete buffer, with `TX_STATUS` `OK`; a SEND that fails validation performs no write: the
transport has none to take. Three things here are the model's (DESIGN CHOICE): the completion comes at a later
end of the write (assumption 8), the TX operand registers store the operands after it (assumption 9), and the
end of a write that was never issued changes nothing (assumption 11). -/
def Obligations.OneSendOneBurst : Prop :=
  ∀ (ft : FrameType) (id : Word) (p : List Byte) (es : List Event) (s : State),
    s.life = .opened → s.txPending = none →
      (∀ f : List Byte, encodeWire ft id p s.idKind = .ok f →
        ∃ t, exec (.send ft id p) (s.withEvents (.writeDone :: es)) = .next t ∧
          step t = .next { s with txFtype := ft, txId := id, txPayload := p, txStatus := .ok,
                                  txStatusValid := true, txBursts := s.txBursts ++ [f], events := es }) ∧
      (∀ e : Status, encodeWire ft id p s.idKind = .error e →
        ∃ t, exec (.send ft id p) (s.withEvents (.writeDone :: es)) = .next t ∧
          step t = .next { s with txFtype := ft, txId := id, txPayload := p, txStatus := e,
                                  txStatusValid := true, events := es })

/-- R35, R126(4): a failed write leaves a prefix of the burst on the TX stream, from none of it to all
of it, and completes SEND with `TransportError` (the spec's decision D14). That no burst stands for an
empty prefix is this model's (assumption 6), and so is that the write of a SEND still waiting after CLOSE
may fail in the same way (assumption 7). -/
def Obligations.FailedWriteLeavesPrefix : Prop :=
  ∀ (f : List Byte) (n : Nat) (es : List Event) (s : State), s.txPending = some f →
    step (s.withEvents (.writeFails n :: es)) = .next
      { s with txBursts := s.txBursts ++ (if f.take n = [] then [] else [f.take n]),
               txPending := none, txStatus := .transportError, txStatusValid := true, events := es }

/-- R31: the block only appends to the TX stream, at most one burst a step, and only bytes of the
frame a SEND holds: the whole frame, unless its write failed or the block was reset. -/
def Obligations.TxStreamOnlyGrows : Prop :=
  ∀ s t : State, step s = .next t →
    t.txBursts = s.txBursts ∨ ∃ f b, s.txPending = some f ∧ t.txBursts = s.txBursts ++ [b] ∧
      b <+: f ∧ (b = f ∨ (∃ n es, s.events = .writeFails n :: es) ∨ ∃ n es, s.events = .reset n :: es)

/-- R46, R77: a SEND in flight leaves its write only when the transport ends it, or at reset. That
CLOSE does not end it is this model's reading of R111 case (c) (assumption 7). -/
def Obligations.SendWaitsForTransport : Prop :=
  ∀ (s t : State) (f : List Byte), step s = .next t → s.txPending = some f → t.txPending ≠ some f →
    (∃ es, s.events = .writeDone :: es) ∨ (∃ n es, s.events = .writeFails n :: es) ∨
      ∃ n es, s.events = .reset n :: es

/-! ### The decoder -/

/-- R101: RECEIVE starts at phase `START` with none of an earlier frame on an open Converter, and
completes with `TransportError`, consuming nothing, on a closed one. Its results and status hold no value
while it runs (R18, the spec's decision D2). The zeros in `RX_CFG` and `RX_ACC` are the model's
(assumption 4): the spec gives these latches no value there (R21). That on a closed Converter the dead working
state, and that registers behind closed windows, store what they did is the model's too (assumptions 21 and 5:
DESIGN CHOICE). -/
def Obligations.ReceiveStarts : Prop :=
  ∀ s : State, s.rxPhase = .idle →
    (s.life = .opened → exec .receive s = .next
      { s with rxPhase := .start, rxCnt := 1, rxCfg := 0#8, rxAcc := 0#32, rxGathered := [],
               rxStatusValid := false, rxFrameValid := false }) ∧
    (s.life = .closed → exec .receive s = .next
      { s with rxStatus := .transportError, rxStatusValid := true, rxFrameValid := false })

/-- R21: no half-decoded frame is retained: what the working state holds when no RECEIVE is in flight
makes no difference to the next one. -/
def Obligations.NoHalfDecodedFrame : Prop :=
  ∀ (s : State) (cfg : Byte) (cnt : Nat) (acc : Word) (gathered : List Byte),
    s.rxPhase = .idle → s.life = .opened →
      exec .receive { s with rxCfg := cfg, rxCnt := cnt, rxAcc := acc, rxGathered := gathered }
        = exec .receive s

/-- R60, R97, R101: each received class, met at its start by a RECEIVE, is consumed exactly and its
fields are the results, with `RX_STATUS` `OK`; the working state, dead then (R21), is not spoken of. -/
def Obligations.ReceivedClassesAccepted : Prop :=
  ∀ (x : BitVec 3) (id : Word) (p rest : List Byte) (s : State),
    s.rxPhase = .start → p.length ≤ 15 → id.toNat < 2 ^ (8 * wireSize s.idKind) →
      (s.rxStream = [0xAA#8, rxConfigByte x .data p.length] ++ idBytes (wireSize s.idKind) id ++ p
          ++ [0x55#8] ++ rest →
        ∃ t, exec (.rxframeData x id p) s = .next t ∧
          { t with rxCfg := s.rxCfg, rxCnt := s.rxCnt, rxAcc := s.rxAcc, rxGathered := s.rxGathered } =
          { s with rxStream := rest, rxCursor := s.rxCursor + (3 + wireSize s.idKind + p.length),
                   rxPhase := .idle, rxStatus := .ok, rxStatusValid := true, rxFtype := .data,
                   rxId := id, rxPayload := p, rxFrameValid := true }) ∧
      (s.rxStream = [0xAA#8, rxConfigByte x .remote p.length] ++ idBytes (wireSize s.idKind) id ++ p
          ++ [0x55#8] ++ rest →
        ∃ t, exec (.rxframeRemote x id p) s = .next t ∧
          { t with rxCfg := s.rxCfg, rxCnt := s.rxCnt, rxAcc := s.rxAcc, rxGathered := s.rxGathered } =
          { s with rxStream := rest, rxCursor := s.rxCursor + (3 + wireSize s.idKind + p.length),
                   rxPhase := .idle, rxStatus := .ok, rxStatusValid := true, rxFtype := .remote,
                   rxId := id, rxPayload := p, rxFrameValid := true })

/-- The frame classes run as instructions and the walk through the phases, byte by byte, are one
machine: serving the decoder in full is the walk over all that has arrived (R91, R102). The two leave
the same bits in the dead working state as well, which R21 does not ask (assumption 21: DESIGN CHOICE). -/
def Obligations.FrameClassesAreTheWalk : Prop :=
  ∀ s : State, s.serveReads = .next s.drain

/-- R98, R100 (derived in the spec): the walk from `START` over the bytes available is `decode_fn` of
them: what completes, with which status and results, how many bytes are consumed; and nothing outside
the decoder changes. -/
def Obligations.WalkIsDecodeFn : Prop :=
  ∀ s : State, s.rxPhase = .start →
    { s.drain with
        rxPhase := s.rxPhase, rxCfg := s.rxCfg, rxCnt := s.rxCnt, rxAcc := s.rxAcc,
        rxGathered := s.rxGathered, rxFtype := s.rxFtype, rxId := s.rxId, rxPayload := s.rxPayload,
        rxFrameValid := s.rxFrameValid, rxStatus := s.rxStatus, rxStatusValid := s.rxStatusValid,
        rxStream := s.rxStream, rxCursor := s.rxCursor } = s ∧
    match decodeFn s.idKind s.rxStream with
    | .blocked n => n = s.rxStream.length ∧ s.drain.rxStream = [] ∧
        s.drain.rxCursor = s.rxCursor + n ∧ s.drain.rxPhase ≠ .idle ∧
        s.drain.rxStatusValid = s.rxStatusValid ∧ s.drain.rxFrameValid = s.rxFrameValid
    | .badStart n => s.drain.rxStream = s.rxStream.drop n ∧ s.drain.rxCursor = s.rxCursor + n ∧
        s.drain.rxPhase = .idle ∧ s.drain.rxStatus = .badStartByte ∧
        s.drain.rxStatusValid = true ∧ s.drain.rxFrameValid = false
    | .badEnd n => s.drain.rxStream = s.rxStream.drop n ∧ s.drain.rxCursor = s.rxCursor + n ∧
        s.drain.rxPhase = .idle ∧ s.drain.rxStatus = .badEndByte ∧
        s.drain.rxStatusValid = true ∧ s.drain.rxFrameValid = false
    | .frame ft id p n => s.drain.rxStream = s.rxStream.drop n ∧ s.drain.rxCursor = s.rxCursor + n ∧
        s.drain.rxPhase = .idle ∧ s.drain.rxStatus = .ok ∧ s.drain.rxStatusValid = true ∧
        s.drain.rxFrameValid = true ∧ s.drain.rxFtype = ft ∧ s.drain.rxId = id ∧ s.drain.rxPayload = p

/-- R90 (U5): how the transport slices its reads makes no difference: after any reads, short or empty,
the walk over what is left ends where the walk over everything ends. After a completed RECEIVE
this takes in the bits of the dead working state (assumption 21: DESIGN CHOICE). -/
def Obligations.SlicingMakesNoDifference : Prop :=
  ∀ (counts : List Nat) (s : State),
    (counts.foldl (fun u n => u.readReturns n) s).drain = s.drain

/-- R36, R37: a read takes no more bytes than the decoder asked for, nor more than were offered or
have arrived, and takes them in stream order; with no RECEIVE in flight it takes none. -/
def Obligations.ReadTakesWhatWasAsked : Prop :=
  ∀ (n : Nat) (s : State), ∃ m, m ≤ n ∧ m ≤ s.rxCnt ∧ m ≤ s.rxStream.length ∧
    (s.rxPhase = .idle → m = 0) ∧ (s.readReturns n).rxStream = s.rxStream.drop m ∧
    (s.readReturns n).rxCursor = s.rxCursor + m

/-- R92, R124: a first byte that is not `0xAA` is the one byte consumed, and RECEIVE completes with
`BadStartByte`. The bits that the dead working state (R21) and the registers behind closed windows still store
are the model's (assumptions 21 and 5: DESIGN CHOICE). -/
def Obligations.BadStartConsumesOneByte : Prop :=
  ∀ (b : Byte) (rest : List Byte) (es : List Event) (s : State),
    s.rxPhase = .start → s.rxStream = b :: rest → b ≠ 0xAA#8 →
      step (s.withEvents (.readAll :: es)) = .next
        { s with rxStream := rest, rxCursor := s.rxCursor + 1, rxPhase := .idle,
                 rxStatus := .badStartByte, rxStatusValid := true, rxFrameValid := false, events := es }

/-- R96, R125: a byte in the end position that is not `0x55` is consumed with all before it, `3 + W + L`
bytes, no frame is returned, and RECEIVE completes with `BadEndByte`. The working state,
dead then (R21), is not spoken of; that the result registers store what they did, behind a closed window, is
the model's (assumption 5: DESIGN CHOICE). -/
def Obligations.BadEndConsumesWholeRun : Prop :=
  ∀ (cfg e : Byte) (ids p rest : List Byte) (es : List Event) (s : State),
    s.rxPhase = .start → s.rxStream = 0xAA#8 :: cfg :: (ids ++ p ++ e :: rest) →
    ids.length = wireSize s.idKind → p.length = (cfg.extractLsb' 0 4).toNat → e ≠ 0x55#8 →
      ∃ t, step (s.withEvents (.readAll :: es)) = .next t ∧
        { t with rxCfg := s.rxCfg, rxCnt := s.rxCnt, rxAcc := s.rxAcc, rxGathered := s.rxGathered } =
        { s with rxStream := rest, rxCursor := s.rxCursor + (3 + wireSize s.idKind + p.length),
                 rxPhase := .idle, rxStatus := .badEndByte, rxStatusValid := true,
                 rxFrameValid := false, events := es }

/-- R59, R104 (the spec's decision D11): bits 7:5 of a received ConfigByte have no effect: two that
differ there alone lead the decoder to the same state but for the latch `RX_CFG`. After a completed RECEIVE
this takes in the other bits of the dead working state (assumption 21: DESIGN CHOICE). -/
def Obligations.IgnoredConfigBitsNoEffect : Prop :=
  ∀ (c c' : Byte) (rest : List Byte) (s : State), s.rxPhase = .config →
    c.extractLsb' 0 5 = c'.extractLsb' 0 5 →
      { ({ s with rxStream := c :: rest } : State).drain with rxCfg := 0#8 } =
      { ({ s with rxStream := c' :: rest } : State).drain with rxCfg := 0#8 }

/-- R103: the round trip. What ENCODE gives, received by a decoder of the same kind, comes back as the
operands, consumed exactly, with what follows untouched. With the other kind the law does not hold, and
no frame that ENCODE could not have made re-encodes to its own bytes: these two clauses are the spec's
derivations (R148, and the last sentence of R103). -/
def Obligations.RoundTrip : Prop :=
  (∀ (ft : FrameType) (id : Word) (p f rest : List Byte) (es : List Event) (s : State),
    s.rxPhase = .start → encodeWire ft id p s.idKind = .ok f → s.rxStream = f ++ rest →
      ∃ t, step (s.withEvents (.readAll :: es)) = .next t ∧
        { t with rxCfg := s.rxCfg, rxCnt := s.rxCnt, rxAcc := s.rxAcc, rxGathered := s.rxGathered } =
        { s with rxStream := rest, rxCursor := s.rxCursor + f.length, rxPhase := .idle,
                 rxStatus := .ok, rxStatusValid := true, rxFtype := ft, rxId := id, rxPayload := p,
                 rxFrameValid := true, events := es }) ∧
  (∃ ft id p f, encodeWire ft id p .extended = .ok f ∧
    decodeFn .standard f ≠ .frame ft id p f.length) ∧
  ∀ (cfg : Byte) (ft : FrameType) (id : Word) (p f : List Byte) (k : IdKind),
    (cfg.extractLsb' 6 2 ≠ 0b11#2 ∨ ¬(cfg.getLsbD 5 = true ↔ k = .extended) ∨
      (cfg.getLsbD 4 = true ∧ cfg.extractLsb' 0 4 ≠ 0#4)) →
    encodeWire ft id p k = .ok f → f[1]? ≠ some cfg

/-- R39, R126(5): a failed read completes RECEIVE with `TransportError`; what it had consumed stays
consumed (the spec's decision D14). The bits that the dead working state (R21) and the registers behind closed
windows still store are the model's (assumptions 21 and 5: DESIGN CHOICE). -/
def Obligations.FailedReadEndsReceive : Prop :=
  ∀ (es : List Event) (s : State), s.rxPhase ≠ .idle →
    step (s.withEvents (.readFails :: es)) = .next
      { s with rxPhase := .idle, rxStatus := .transportError, rxStatusValid := true,
               rxFrameValid := false, events := es }

/-- R46, R101 case (c): too few bytes is a wait, not an error: with nothing arrived, the transport's
answer changes nothing. -/
def Obligations.EmptyReadIsAWait : Prop :=
  ∀ (n : Nat) (es : List Event) (s : State),
    (s.rxStream = [] → step (s.withEvents (.readAll :: es)) = .next (s.withEvents es)) ∧
    (s.rxStream = [] ∨ n = 0 →
      step (s.withEvents (.readReturns n :: es)) = .next (s.withEvents es))

/-- R38: reads are destructive: a step takes `n` bytes off the front of the RX stream and never puts one
back; only the environment adds bytes, behind; and bytes are taken only while a RECEIVE is in flight. -/
def Obligations.RxStreamConserved : Prop :=
  ∀ s t : State, step s = .next t → ∃ (n : Nat) (added : List Byte),
    n ≤ s.rxStream.length ∧ t.rxCursor = s.rxCursor + n ∧ t.rxStream = s.rxStream.drop n ++ added ∧
      (n ≠ 0 → s.rxPhase ≠ .idle) ∧ (added ≠ [] → ∃ es, s.events = .arrive added :: es)

/-- R102 (derived in the spec): in one step the decoder's phase stays, returns to `IDLE`, or moves
forward; and it leaves `IDLE` only for `START`, by RECEIVE on an open Converter. -/
def Obligations.PhaseMovesForward : Prop :=
  ∀ s t : State, step s = .next t →
    (t.rxPhase = s.rxPhase ∨ t.rxPhase = .idle ∨ s.rxPhase.code.toNat < t.rxPhase.code.toNat) ∧
    (s.rxPhase = .idle → t.rxPhase ≠ .idle → t.rxPhase = .start ∧ s.life = .opened ∧
      ∃ m es, s.events = .issue m :: es ∧ decode .command m = .ok .receive)

/-! ### The machine -/

/-- The invariant of Safety.lean holds right after reset. Where it speaks of validity windows it rests
on the spec's decisions D2 and D9. -/
def Obligations.ResetMeetsInvariant : Prop :=
  State.reset.Inv

/-- Every step keeps the invariant, whatever the caller and the transport do. It speaks of validity windows
(the spec's decisions D2, D28) and of prefixes of failed writes (its decision D14). That a RECEIVE is in
flight only while open rests on D25 and on assumption 13, that no burst is empty on assumption 6, both
the model's. -/
def Obligations.StepKeepsInvariant : Prop :=
  ∀ s t : State, s.Inv → step s = .next t → t.Inv

/-- R25, R141 (the spec's decision D9): after reset the block is `Unconfigured` and `IDLE`, no
register of the host holds a value, nothing is in flight, nothing is written or consumed. -/
def Obligations.ResetState : Prop :=
  State.reset.life = .unconfigured ∧ State.reset.rxPhase = .idle ∧
    (∀ r : HostReg, State.reset.visible r = none) ∧ State.reset.txPending = none ∧
    State.reset.txBursts = [] ∧ State.reset.rxCursor = 0 ∧ State.reset.closeStrobes = 0

/-- R140 (the spec's decision D9): the reset input, at any time. Nothing is consumed and no `close()` is
issued; of a burst in flight a prefix may be on the TX stream; every operation in flight is abandoned
and no register of the host holds a value. -/
def Obligations.ResetInput : Prop :=
  ∀ (n : Nat) (es : List Event) (s : State), ∃ t,
    step (s.withEvents (.reset n :: es)) = .next t ∧
      t.life = .unconfigured ∧ t.rxPhase = .idle ∧ t.txPending = none ∧
      (∀ r : HostReg, t.visible r = none) ∧ t.rxStream = s.rxStream ∧ t.rxCursor = s.rxCursor ∧
      t.closeStrobes = s.closeStrobes ∧ t.events = es ∧
      t.txBursts = s.txBursts ++
        (match s.txPending with
         | none => []
         | some f => if f.take n = [] then [] else [f.take n])

/-- A step runs the decoded instruction: a command message the caller issues, the burst whose write
the transport completes, the frame a RECEIVE stands at. -/
def Obligations.StepRunsDecoded : Prop :=
  ∀ (i : Instr) (bytes : List Byte) (es : List Event) (s : State),
    (decode .command bytes = .ok i →
      step (s.withEvents (.issue bytes :: es)) = exec i (s.withEvents es)) ∧
    (s.txPending = some bytes → decode .txBurst bytes = .ok i →
      step (s.withEvents (.writeDone :: es)) = exec i (s.withEvents es)) ∧
    (∀ rest : List Byte, s.rxPhase = .start → s.rxStream = bytes ++ rest →
      decode (.rxStream s.idKind) bytes = .ok i →
      step (s.withEvents (.readAll :: es)) = exec i (s.withEvents es))

/-- R18 (the spec's decisions D2, D28): the host reads a register inside its validity window and
nothing changes; outside it the read faults. -/
def Obligations.HostReadWindow : Prop :=
  ∀ (r : HostReg) (es : List Event) (s : State),
    ((s.visible r).isSome → step (s.withEvents (.hostRead r :: es)) = .next (s.withEvents es)) ∧
    (s.visible r = none →
      step (s.withEvents (.hostRead r :: es)) = .fault (.readOutsideWindow r))

/-- R143, R144 (the spec's decision D18): a second SEND, or a second RECEIVE, before the first has
completed is a fault. That it faults before its operands or `LIFE` Closed are looked at is the model's
(assumption 17). -/
def Obligations.OverlapFaults : Prop :=
  ∀ s : State, s.life ≠ .unconfigured →
    (s.txPending.isSome → ∀ (ft : FrameType) (id : Word) (p : List Byte),
      exec (.send ft id p) s = .fault .sendOverlap) ∧
    (s.rxPhase ≠ .idle → exec .receive s = .fault .receiveOverlap)

/-- The machine faults on nothing but the hazards the spec names (R18, R143, R144; decisions D2, D18): a
step that faults is a SEND issued while one is in flight, a RECEIVE issued while one is in flight, or the
host's read of a register that holds no value. -/
def Obligations.OnlyHazardsFault : Prop :=
  ∀ (s : State) (r : Fault), step s = .fault r →
    (r = .sendOverlap ∧ s.life ≠ .unconfigured ∧ s.txPending.isSome ∧
      ((∃ m ft id p es, s.events = .issue m :: es ∧ decode .command m = .ok (.send ft id p)) ∨
        ∃ ft id ds es, s.events = .issueHex ft id ds :: es)) ∨
    (r = .receiveOverlap ∧ s.life ≠ .unconfigured ∧ s.rxPhase ≠ .idle ∧
      ∃ m es, s.events = .issue m :: es ∧ decode .command m = .ok .receive) ∨
    ∃ reg es, r = .readOutsideWindow reg ∧ s.visible reg = none ∧ s.events = .hostRead reg :: es

/-- In a state that meets the invariant the machine refuses nothing but an operation where R13 says
"refused" (R14, decision D7) and a message that decodes to no command: the frames the encoder holds and
those the decoder meets always run. -/
def Obligations.OnlyLifeCycleRefuses : Prop :=
  ∀ (s : State) (r : Refusal), s.Inv → step s = .refused r →
    (r = .lifeCycle .new ∧ s.life ≠ .unconfigured ∧
      ∃ m k es, s.events = .issue m :: es ∧ decode .command m = .ok (.new k)) ∨
    (r = .lifeCycle .send ∧ s.life = .unconfigured ∧
      ((∃ m ft id p es, s.events = .issue m :: es ∧ decode .command m = .ok (.send ft id p)) ∨
        ∃ ft id ds es, s.events = .issueHex ft id ds :: es)) ∨
    (r = .lifeCycle .receive ∧ s.life = .unconfigured ∧
      ∃ m es, s.events = .issue m :: es ∧ decode .command m = .ok .receive) ∨
    (r = .lifeCycle .close ∧ s.life = .unconfigured ∧
      ∃ m es, s.events = .issue m :: es ∧ decode .command m = .ok .close) ∨
    ∃ d m es, r = .undecodable d ∧ s.events = .issue m :: es ∧ decode .command m = .error d

/-- R135 (derived in the spec): a SEND and a RECEIVE in flight together cannot interfere: an event of
the encoder and one of the decoder give the same state in either order. -/
def Obligations.AgentsCommute : Prop :=
  ∀ (a b : Event) (es : List Event) (s t : State), a.isTransmit = true → b.isReceive = true →
    ((∃ u, step (s.withEvents (a :: b :: es)) = .next u ∧ step u = .next t) ↔
      ∃ u, step (s.withEvents (b :: a :: es)) = .next u ∧ step u = .next t)

/-! ### What the host sees, exact reads, the end of a run -/

/-- R16, R17, R18 (the spec's decisions D2, D28): per register, what the host sees is the stored register
exactly while its own window is open; `RX_PLEN` is the length of `RX_PAYLOAD` and `TX_PLEN` that of
`TX_PAYLOAD` (R15). The windows as bits are the model's form (assumption 5). -/
def Obligations.HostSeesRegisters : Prop :=
  ∀ s : State,
    (∀ v, s.visible .ctlStatus = some v ↔ s.ctlStatusValid = true ∧ v = .status s.ctlStatus) ∧
    (∀ v, s.visible .txStatus = some v ↔ s.txStatusValid = true ∧ v = .status s.txStatus) ∧
    (∀ v, s.visible .rxStatus = some v ↔ s.rxStatusValid = true ∧ v = .status s.rxStatus) ∧
    (∀ v, s.visible .rxFtype = some v ↔ s.rxFrameValid = true ∧ v = .ftype s.rxFtype) ∧
    (∀ v, s.visible .rxId = some v ↔ s.rxFrameValid = true ∧ v = .ident s.rxId) ∧
    (∀ v, s.visible .rxPlen = some v ↔ s.rxFrameValid = true ∧ v = .plen s.rxPlen) ∧
    (∀ v, s.visible .rxPayload = some v ↔ s.rxFrameValid = true ∧ v = .payload s.rxPayload) ∧
    (s.rxPayload.length ≤ 15 → s.rxPlen.toNat = s.rxPayload.length) ∧
    s.txPlen = s.txPayload.length

/-- R36, R37 (the spec's decision D17): a read takes exactly as many bytes as the transport returns, the
decoder still misses and have arrived, whichever is least; after a short read the phase is the same and the
bytes still missing are those that were, less those taken. -/
def Obligations.ReadTakesExactly : Prop :=
  ∀ (n : Nat) (es : List Event) (s : State), s.Inv → s.rxPhase ≠ .idle →
    ∃ t, step (s.withEvents (.readReturns n :: es)) = .next t ∧
      t.rxStream = s.rxStream.drop (min n (min s.rxCnt s.rxStream.length)) ∧
      t.rxCursor = s.rxCursor + min n (min s.rxCnt s.rxStream.length) ∧
      (min n s.rxStream.length < s.rxCnt →
        t.rxPhase = s.rxPhase ∧ t.rxCnt = s.rxCnt - min n s.rxStream.length)

/-- R32: bytes that arrive are behind those not yet consumed, and nothing else changes. -/
def Obligations.ArriveAppends : Prop :=
  ∀ (bs : List Byte) (es : List Event) (s : State),
    step (s.withEvents (.arrive bs :: es)) = .next { s with rxStream := s.rxStream ++ bs, events := es }

/-- R13 (the spec's decisions D7, D8): an operation is refused where the life-cycle table says so, and
nowhere else: NEW in a block with a Converter, open or closed, the other three in an unconfigured one. -/
def Obligations.LifeCycleTable : Prop :=
  (∀ l : Life, (l.refuses .new = true ↔ l ≠ .unconfigured) ∧
    (l.refuses .send = true ↔ l = .unconfigured) ∧ (l.refuses .receive = true ↔ l = .unconfigured) ∧
    (l.refuses .close = true ↔ l = .unconfigured)) ∧
  ∀ (i : Instr) (op : Operation) (s : State), operationOf i = some op →
    (s.life.refuses op = true ↔ exec i s = .refused (.lifeCycle op))

/-- R152 (the spec's decision D29): when a run is over and what its end is. With no event left it is over
exactly when no operation is in flight; with an operation in flight, a blocked one too, or one left to
issue that is not refused, it is not over; once over it stays over, and its end, which is `LIFE`, `ID_KIND`,
the status and results that hold a value, the TX stream and the RX cursor, does not change but by reset. How
refused operations, a reset still to come and an operation that reset abandoned are read is the model's, and
so is the stored `ID_KIND` in the end of a run that ends Unconfigured (assumption 20). -/
def Obligations.RunOver : Prop :=
  ∀ s : State,
    (s.events = [] → (s.runOver = true ↔ s.txPending = none ∧ s.rxPhase = .idle)) ∧
    (s.txPending.isSome ∨ s.rxPhase ≠ .idle → s.runOver = false) ∧
    (∀ (e : Event) (es : List Event) (op : Operation), s.events = e :: es → e.operation = some op →
      s.life.refuses op = false → s.runOver = false) ∧
    (∀ t : State, s.runOver = true → step s = .next t → t.runOver = true ∧
      (t.runEnd = s.runEnd ∨ ∃ n es, s.events = .reset n :: es)) ∧
    s.runEnd = {
      life := s.life, idKind := s.idKind,
      ctlStatus := if s.ctlStatusValid then some s.ctlStatus else none,
      txStatus := if s.txStatusValid then some s.txStatus else none,
      rxStatus := if s.rxStatusValid then some s.rxStatus else none,
      rxFrame := if s.rxFrameValid then some (s.rxFtype, s.rxId, s.rxPayload) else none,
      txBursts := s.txBursts, rxCursor := s.rxCursor }
end

