-- ==== Sys2Proof/Laws/State.lean ====
section
/-! SUPPORT. The projections of the state updates of Machine/Ops.lean: one lemma per update and
field, true by `rfl`, so that no proof unfolds a record update; and which completion a `raise` is. -/

namespace Sys2Proof.Machine

variable (s : State)

/-! ### `setLife` -/

@[simp] theorem State.setLife_life (l : Life) : (s.setLife l).life = l := rfl
@[simp] theorem State.setLife_idKind (l : Life) : (s.setLife l).idKind = s.idKind := rfl
@[simp] theorem State.setLife_txFtype (l : Life) : (s.setLife l).txFtype = s.txFtype := rfl
@[simp] theorem State.setLife_txId (l : Life) : (s.setLife l).txId = s.txId := rfl
@[simp] theorem State.setLife_txPayload (l : Life) : (s.setLife l).txPayload = s.txPayload := rfl
@[simp] theorem State.setLife_txStatus (l : Life) : (s.setLife l).txStatus = s.txStatus := rfl
@[simp] theorem State.setLife_txStatusValid (l : Life) : (s.setLife l).txStatusValid = s.txStatusValid := rfl
@[simp] theorem State.setLife_rxFtype (l : Life) : (s.setLife l).rxFtype = s.rxFtype := rfl
@[simp] theorem State.setLife_rxId (l : Life) : (s.setLife l).rxId = s.rxId := rfl
@[simp] theorem State.setLife_rxPayload (l : Life) : (s.setLife l).rxPayload = s.rxPayload := rfl
@[simp] theorem State.setLife_rxFrameValid (l : Life) : (s.setLife l).rxFrameValid = s.rxFrameValid := rfl
@[simp] theorem State.setLife_rxStatus (l : Life) : (s.setLife l).rxStatus = s.rxStatus := rfl
@[simp] theorem State.setLife_rxStatusValid (l : Life) : (s.setLife l).rxStatusValid = s.rxStatusValid := rfl
@[simp] theorem State.setLife_ctlStatus (l : Life) : (s.setLife l).ctlStatus = s.ctlStatus := rfl
@[simp] theorem State.setLife_ctlStatusValid (l : Life) : (s.setLife l).ctlStatusValid = s.ctlStatusValid := rfl
@[simp] theorem State.setLife_rxPhase (l : Life) : (s.setLife l).rxPhase = s.rxPhase := rfl
@[simp] theorem State.setLife_rxCfg (l : Life) : (s.setLife l).rxCfg = s.rxCfg := rfl
@[simp] theorem State.setLife_rxCnt (l : Life) : (s.setLife l).rxCnt = s.rxCnt := rfl
@[simp] theorem State.setLife_rxAcc (l : Life) : (s.setLife l).rxAcc = s.rxAcc := rfl
@[simp] theorem State.setLife_rxGathered (l : Life) : (s.setLife l).rxGathered = s.rxGathered := rfl
@[simp] theorem State.setLife_txPending (l : Life) : (s.setLife l).txPending = s.txPending := rfl
@[simp] theorem State.setLife_txBursts (l : Life) : (s.setLife l).txBursts = s.txBursts := rfl
@[simp] theorem State.setLife_rxStream (l : Life) : (s.setLife l).rxStream = s.rxStream := rfl
@[simp] theorem State.setLife_rxCursor (l : Life) : (s.setLife l).rxCursor = s.rxCursor := rfl
@[simp] theorem State.setLife_closeStrobes (l : Life) : (s.setLife l).closeStrobes = s.closeStrobes := rfl
@[simp] theorem State.setLife_events (l : Life) : (s.setLife l).events = s.events := rfl

/-! ### `setIdKind` -/

@[simp] theorem State.setIdKind_life (k : IdKind) : (s.setIdKind k).life = s.life := rfl
@[simp] theorem State.setIdKind_idKind (k : IdKind) : (s.setIdKind k).idKind = k := rfl
@[simp] theorem State.setIdKind_txFtype (k : IdKind) : (s.setIdKind k).txFtype = s.txFtype := rfl
@[simp] theorem State.setIdKind_txId (k : IdKind) : (s.setIdKind k).txId = s.txId := rfl
@[simp] theorem State.setIdKind_txPayload (k : IdKind) : (s.setIdKind k).txPayload = s.txPayload := rfl
@[simp] theorem State.setIdKind_txStatus (k : IdKind) : (s.setIdKind k).txStatus = s.txStatus := rfl
@[simp] theorem State.setIdKind_txStatusValid (k : IdKind) : (s.setIdKind k).txStatusValid = s.txStatusValid := rfl
@[simp] theorem State.setIdKind_rxFtype (k : IdKind) : (s.setIdKind k).rxFtype = s.rxFtype := rfl
@[simp] theorem State.setIdKind_rxId (k : IdKind) : (s.setIdKind k).rxId = s.rxId := rfl
@[simp] theorem State.setIdKind_rxPayload (k : IdKind) : (s.setIdKind k).rxPayload = s.rxPayload := rfl
@[simp] theorem State.setIdKind_rxFrameValid (k : IdKind) : (s.setIdKind k).rxFrameValid = s.rxFrameValid := rfl
@[simp] theorem State.setIdKind_rxStatus (k : IdKind) : (s.setIdKind k).rxStatus = s.rxStatus := rfl
@[simp] theorem State.setIdKind_rxStatusValid (k : IdKind) : (s.setIdKind k).rxStatusValid = s.rxStatusValid := rfl
@[simp] theorem State.setIdKind_ctlStatus (k : IdKind) : (s.setIdKind k).ctlStatus = s.ctlStatus := rfl
@[simp] theorem State.setIdKind_ctlStatusValid (k : IdKind) : (s.setIdKind k).ctlStatusValid = s.ctlStatusValid := rfl
@[simp] theorem State.setIdKind_rxPhase (k : IdKind) : (s.setIdKind k).rxPhase = s.rxPhase := rfl
@[simp] theorem State.setIdKind_rxCfg (k : IdKind) : (s.setIdKind k).rxCfg = s.rxCfg := rfl
@[simp] theorem State.setIdKind_rxCnt (k : IdKind) : (s.setIdKind k).rxCnt = s.rxCnt := rfl
@[simp] theorem State.setIdKind_rxAcc (k : IdKind) : (s.setIdKind k).rxAcc = s.rxAcc := rfl
@[simp] theorem State.setIdKind_rxGathered (k : IdKind) : (s.setIdKind k).rxGathered = s.rxGathered := rfl
@[simp] theorem State.setIdKind_txPending (k : IdKind) : (s.setIdKind k).txPending = s.txPending := rfl
@[simp] theorem State.setIdKind_txBursts (k : IdKind) : (s.setIdKind k).txBursts = s.txBursts := rfl
@[simp] theorem State.setIdKind_rxStream (k : IdKind) : (s.setIdKind k).rxStream = s.rxStream := rfl
@[simp] theorem State.setIdKind_rxCursor (k : IdKind) : (s.setIdKind k).rxCursor = s.rxCursor := rfl
@[simp] theorem State.setIdKind_closeStrobes (k : IdKind) : (s.setIdKind k).closeStrobes = s.closeStrobes := rfl
@[simp] theorem State.setIdKind_events (k : IdKind) : (s.setIdKind k).events = s.events := rfl

/-! ### `strobeClose` -/

@[simp] theorem State.strobeClose_life : (s.strobeClose).life = s.life := rfl
@[simp] theorem State.strobeClose_idKind : (s.strobeClose).idKind = s.idKind := rfl
@[simp] theorem State.strobeClose_txFtype : (s.strobeClose).txFtype = s.txFtype := rfl
@[simp] theorem State.strobeClose_txId : (s.strobeClose).txId = s.txId := rfl
@[simp] theorem State.strobeClose_txPayload : (s.strobeClose).txPayload = s.txPayload := rfl
@[simp] theorem State.strobeClose_txStatus : (s.strobeClose).txStatus = s.txStatus := rfl
@[simp] theorem State.strobeClose_txStatusValid : (s.strobeClose).txStatusValid = s.txStatusValid := rfl
@[simp] theorem State.strobeClose_rxFtype : (s.strobeClose).rxFtype = s.rxFtype := rfl
@[simp] theorem State.strobeClose_rxId : (s.strobeClose).rxId = s.rxId := rfl
@[simp] theorem State.strobeClose_rxPayload : (s.strobeClose).rxPayload = s.rxPayload := rfl
@[simp] theorem State.strobeClose_rxFrameValid : (s.strobeClose).rxFrameValid = s.rxFrameValid := rfl
@[simp] theorem State.strobeClose_rxStatus : (s.strobeClose).rxStatus = s.rxStatus := rfl
@[simp] theorem State.strobeClose_rxStatusValid : (s.strobeClose).rxStatusValid = s.rxStatusValid := rfl
@[simp] theorem State.strobeClose_ctlStatus : (s.strobeClose).ctlStatus = s.ctlStatus := rfl
@[simp] theorem State.strobeClose_ctlStatusValid : (s.strobeClose).ctlStatusValid = s.ctlStatusValid := rfl
@[simp] theorem State.strobeClose_rxPhase : (s.strobeClose).rxPhase = s.rxPhase := rfl
@[simp] theorem State.strobeClose_rxCfg : (s.strobeClose).rxCfg = s.rxCfg := rfl
@[simp] theorem State.strobeClose_rxCnt : (s.strobeClose).rxCnt = s.rxCnt := rfl
@[simp] theorem State.strobeClose_rxAcc : (s.strobeClose).rxAcc = s.rxAcc := rfl
@[simp] theorem State.strobeClose_rxGathered : (s.strobeClose).rxGathered = s.rxGathered := rfl
@[simp] theorem State.strobeClose_txPending : (s.strobeClose).txPending = s.txPending := rfl
@[simp] theorem State.strobeClose_txBursts : (s.strobeClose).txBursts = s.txBursts := rfl
@[simp] theorem State.strobeClose_rxStream : (s.strobeClose).rxStream = s.rxStream := rfl
@[simp] theorem State.strobeClose_rxCursor : (s.strobeClose).rxCursor = s.rxCursor := rfl
@[simp] theorem State.strobeClose_closeStrobes : (s.strobeClose).closeStrobes = s.closeStrobes + 1 := rfl
@[simp] theorem State.strobeClose_events : (s.strobeClose).events = s.events := rfl

/-! ### `beginSend` -/

@[simp] theorem State.beginSend_life (ft : FrameType) (id : Word) (p : List Byte) : (s.beginSend ft id p).life = s.life := rfl
@[simp] theorem State.beginSend_idKind (ft : FrameType) (id : Word) (p : List Byte) : (s.beginSend ft id p).idKind = s.idKind := rfl
@[simp] theorem State.beginSend_txFtype (ft : FrameType) (id : Word) (p : List Byte) : (s.beginSend ft id p).txFtype = ft := rfl
@[simp] theorem State.beginSend_txId (ft : FrameType) (id : Word) (p : List Byte) : (s.beginSend ft id p).txId = id := rfl
@[simp] theorem State.beginSend_txPayload (ft : FrameType) (id : Word) (p : List Byte) : (s.beginSend ft id p).txPayload = p := rfl
@[simp] theorem State.beginSend_txStatus (ft : FrameType) (id : Word) (p : List Byte) : (s.beginSend ft id p).txStatus = s.txStatus := rfl
@[simp] theorem State.beginSend_txStatusValid (ft : FrameType) (id : Word) (p : List Byte) : (s.beginSend ft id p).txStatusValid = false := rfl
@[simp] theorem State.beginSend_rxFtype (ft : FrameType) (id : Word) (p : List Byte) : (s.beginSend ft id p).rxFtype = s.rxFtype := rfl
@[simp] theorem State.beginSend_rxId (ft : FrameType) (id : Word) (p : List Byte) : (s.beginSend ft id p).rxId = s.rxId := rfl
@[simp] theorem State.beginSend_rxPayload (ft : FrameType) (id : Word) (p : List Byte) : (s.beginSend ft id p).rxPayload = s.rxPayload := rfl
@[simp] theorem State.beginSend_rxFrameValid (ft : FrameType) (id : Word) (p : List Byte) : (s.beginSend ft id p).rxFrameValid = s.rxFrameValid := rfl
@[simp] theorem State.beginSend_rxStatus (ft : FrameType) (id : Word) (p : List Byte) : (s.beginSend ft id p).rxStatus = s.rxStatus := rfl
@[simp] theorem State.beginSend_rxStatusValid (ft : FrameType) (id : Word) (p : List Byte) : (s.beginSend ft id p).rxStatusValid = s.rxStatusValid := rfl
@[simp] theorem State.beginSend_ctlStatus (ft : FrameType) (id : Word) (p : List Byte) : (s.beginSend ft id p).ctlStatus = s.ctlStatus := rfl
@[simp] theorem State.beginSend_ctlStatusValid (ft : FrameType) (id : Word) (p : List Byte) : (s.beginSend ft id p).ctlStatusValid = s.ctlStatusValid := rfl
@[simp] theorem State.beginSend_rxPhase (ft : FrameType) (id : Word) (p : List Byte) : (s.beginSend ft id p).rxPhase = s.rxPhase := rfl
@[simp] theorem State.beginSend_rxCfg (ft : FrameType) (id : Word) (p : List Byte) : (s.beginSend ft id p).rxCfg = s.rxCfg := rfl
@[simp] theorem State.beginSend_rxCnt (ft : FrameType) (id : Word) (p : List Byte) : (s.beginSend ft id p).rxCnt = s.rxCnt := rfl
@[simp] theorem State.beginSend_rxAcc (ft : FrameType) (id : Word) (p : List Byte) : (s.beginSend ft id p).rxAcc = s.rxAcc := rfl
@[simp] theorem State.beginSend_rxGathered (ft : FrameType) (id : Word) (p : List Byte) : (s.beginSend ft id p).rxGathered = s.rxGathered := rfl
@[simp] theorem State.beginSend_txPending (ft : FrameType) (id : Word) (p : List Byte) : (s.beginSend ft id p).txPending = s.txPending := rfl
@[simp] theorem State.beginSend_txBursts (ft : FrameType) (id : Word) (p : List Byte) : (s.beginSend ft id p).txBursts = s.txBursts := rfl
@[simp] theorem State.beginSend_rxStream (ft : FrameType) (id : Word) (p : List Byte) : (s.beginSend ft id p).rxStream = s.rxStream := rfl
@[simp] theorem State.beginSend_rxCursor (ft : FrameType) (id : Word) (p : List Byte) : (s.beginSend ft id p).rxCursor = s.rxCursor := rfl
@[simp] theorem State.beginSend_closeStrobes (ft : FrameType) (id : Word) (p : List Byte) : (s.beginSend ft id p).closeStrobes = s.closeStrobes := rfl
@[simp] theorem State.beginSend_events (ft : FrameType) (id : Word) (p : List Byte) : (s.beginSend ft id p).events = s.events := rfl

/-! ### `beginReceive` -/

@[simp] theorem State.beginReceive_life : (s.beginReceive).life = s.life := rfl
@[simp] theorem State.beginReceive_idKind : (s.beginReceive).idKind = s.idKind := rfl
@[simp] theorem State.beginReceive_txFtype : (s.beginReceive).txFtype = s.txFtype := rfl
@[simp] theorem State.beginReceive_txId : (s.beginReceive).txId = s.txId := rfl
@[simp] theorem State.beginReceive_txPayload : (s.beginReceive).txPayload = s.txPayload := rfl
@[simp] theorem State.beginReceive_txStatus : (s.beginReceive).txStatus = s.txStatus := rfl
@[simp] theorem State.beginReceive_txStatusValid : (s.beginReceive).txStatusValid = s.txStatusValid := rfl
@[simp] theorem State.beginReceive_rxFtype : (s.beginReceive).rxFtype = s.rxFtype := rfl
@[simp] theorem State.beginReceive_rxId : (s.beginReceive).rxId = s.rxId := rfl
@[simp] theorem State.beginReceive_rxPayload : (s.beginReceive).rxPayload = s.rxPayload := rfl
@[simp] theorem State.beginReceive_rxFrameValid : (s.beginReceive).rxFrameValid = false := rfl
@[simp] theorem State.beginReceive_rxStatus : (s.beginReceive).rxStatus = s.rxStatus := rfl
@[simp] theorem State.beginReceive_rxStatusValid : (s.beginReceive).rxStatusValid = false := rfl
@[simp] theorem State.beginReceive_ctlStatus : (s.beginReceive).ctlStatus = s.ctlStatus := rfl
@[simp] theorem State.beginReceive_ctlStatusValid : (s.beginReceive).ctlStatusValid = s.ctlStatusValid := rfl
@[simp] theorem State.beginReceive_rxPhase : (s.beginReceive).rxPhase = s.rxPhase := rfl
@[simp] theorem State.beginReceive_rxCfg : (s.beginReceive).rxCfg = s.rxCfg := rfl
@[simp] theorem State.beginReceive_rxCnt : (s.beginReceive).rxCnt = s.rxCnt := rfl
@[simp] theorem State.beginReceive_rxAcc : (s.beginReceive).rxAcc = s.rxAcc := rfl
@[simp] theorem State.beginReceive_rxGathered : (s.beginReceive).rxGathered = s.rxGathered := rfl
@[simp] theorem State.beginReceive_txPending : (s.beginReceive).txPending = s.txPending := rfl
@[simp] theorem State.beginReceive_txBursts : (s.beginReceive).txBursts = s.txBursts := rfl
@[simp] theorem State.beginReceive_rxStream : (s.beginReceive).rxStream = s.rxStream := rfl
@[simp] theorem State.beginReceive_rxCursor : (s.beginReceive).rxCursor = s.rxCursor := rfl
@[simp] theorem State.beginReceive_closeStrobes : (s.beginReceive).closeStrobes = s.closeStrobes := rfl
@[simp] theorem State.beginReceive_events : (s.beginReceive).events = s.events := rfl

/-! ### `completeCtl` -/

@[simp] theorem State.completeCtl_life (e : Status) : (s.completeCtl e).life = s.life := rfl
@[simp] theorem State.completeCtl_idKind (e : Status) : (s.completeCtl e).idKind = s.idKind := rfl
@[simp] theorem State.completeCtl_txFtype (e : Status) : (s.completeCtl e).txFtype = s.txFtype := rfl
@[simp] theorem State.completeCtl_txId (e : Status) : (s.completeCtl e).txId = s.txId := rfl
@[simp] theorem State.completeCtl_txPayload (e : Status) : (s.completeCtl e).txPayload = s.txPayload := rfl
@[simp] theorem State.completeCtl_txStatus (e : Status) : (s.completeCtl e).txStatus = s.txStatus := rfl
@[simp] theorem State.completeCtl_txStatusValid (e : Status) : (s.completeCtl e).txStatusValid = s.txStatusValid := rfl
@[simp] theorem State.completeCtl_rxFtype (e : Status) : (s.completeCtl e).rxFtype = s.rxFtype := rfl
@[simp] theorem State.completeCtl_rxId (e : Status) : (s.completeCtl e).rxId = s.rxId := rfl
@[simp] theorem State.completeCtl_rxPayload (e : Status) : (s.completeCtl e).rxPayload = s.rxPayload := rfl
@[simp] theorem State.completeCtl_rxFrameValid (e : Status) : (s.completeCtl e).rxFrameValid = s.rxFrameValid := rfl
@[simp] theorem State.completeCtl_rxStatus (e : Status) : (s.completeCtl e).rxStatus = s.rxStatus := rfl
@[simp] theorem State.completeCtl_rxStatusValid (e : Status) : (s.completeCtl e).rxStatusValid = s.rxStatusValid := rfl
@[simp] theorem State.completeCtl_ctlStatus (e : Status) : (s.completeCtl e).ctlStatus = e := rfl
@[simp] theorem State.completeCtl_ctlStatusValid (e : Status) : (s.completeCtl e).ctlStatusValid = true := rfl
@[simp] theorem State.completeCtl_rxPhase (e : Status) : (s.completeCtl e).rxPhase = s.rxPhase := rfl
@[simp] theorem State.completeCtl_rxCfg (e : Status) : (s.completeCtl e).rxCfg = s.rxCfg := rfl
@[simp] theorem State.completeCtl_rxCnt (e : Status) : (s.completeCtl e).rxCnt = s.rxCnt := rfl
@[simp] theorem State.completeCtl_rxAcc (e : Status) : (s.completeCtl e).rxAcc = s.rxAcc := rfl
@[simp] theorem State.completeCtl_rxGathered (e : Status) : (s.completeCtl e).rxGathered = s.rxGathered := rfl
@[simp] theorem State.completeCtl_txPending (e : Status) : (s.completeCtl e).txPending = s.txPending := rfl
@[simp] theorem State.completeCtl_txBursts (e : Status) : (s.completeCtl e).txBursts = s.txBursts := rfl
@[simp] theorem State.completeCtl_rxStream (e : Status) : (s.completeCtl e).rxStream = s.rxStream := rfl
@[simp] theorem State.completeCtl_rxCursor (e : Status) : (s.completeCtl e).rxCursor = s.rxCursor := rfl
@[simp] theorem State.completeCtl_closeStrobes (e : Status) : (s.completeCtl e).closeStrobes = s.closeStrobes := rfl
@[simp] theorem State.completeCtl_events (e : Status) : (s.completeCtl e).events = s.events := rfl

/-! ### `completeTx` -/

@[simp] theorem State.completeTx_life (e : Status) : (s.completeTx e).life = s.life := rfl
@[simp] theorem State.completeTx_idKind (e : Status) : (s.completeTx e).idKind = s.idKind := rfl
@[simp] theorem State.completeTx_txFtype (e : Status) : (s.completeTx e).txFtype = s.txFtype := rfl
@[simp] theorem State.completeTx_txId (e : Status) : (s.completeTx e).txId = s.txId := rfl
@[simp] theorem State.completeTx_txPayload (e : Status) : (s.completeTx e).txPayload = s.txPayload := rfl
@[simp] theorem State.completeTx_txStatus (e : Status) : (s.completeTx e).txStatus = e := rfl
@[simp] theorem State.completeTx_txStatusValid (e : Status) : (s.completeTx e).txStatusValid = true := rfl
@[simp] theorem State.completeTx_rxFtype (e : Status) : (s.completeTx e).rxFtype = s.rxFtype := rfl
@[simp] theorem State.completeTx_rxId (e : Status) : (s.completeTx e).rxId = s.rxId := rfl
@[simp] theorem State.completeTx_rxPayload (e : Status) : (s.completeTx e).rxPayload = s.rxPayload := rfl
@[simp] theorem State.completeTx_rxFrameValid (e : Status) : (s.completeTx e).rxFrameValid = s.rxFrameValid := rfl
@[simp] theorem State.completeTx_rxStatus (e : Status) : (s.completeTx e).rxStatus = s.rxStatus := rfl
@[simp] theorem State.completeTx_rxStatusValid (e : Status) : (s.completeTx e).rxStatusValid = s.rxStatusValid := rfl
@[simp] theorem State.completeTx_ctlStatus (e : Status) : (s.completeTx e).ctlStatus = s.ctlStatus := rfl
@[simp] theorem State.completeTx_ctlStatusValid (e : Status) : (s.completeTx e).ctlStatusValid = s.ctlStatusValid := rfl
@[simp] theorem State.completeTx_rxPhase (e : Status) : (s.completeTx e).rxPhase = s.rxPhase := rfl
@[simp] theorem State.completeTx_rxCfg (e : Status) : (s.completeTx e).rxCfg = s.rxCfg := rfl
@[simp] theorem State.completeTx_rxCnt (e : Status) : (s.completeTx e).rxCnt = s.rxCnt := rfl
@[simp] theorem State.completeTx_rxAcc (e : Status) : (s.completeTx e).rxAcc = s.rxAcc := rfl
@[simp] theorem State.completeTx_rxGathered (e : Status) : (s.completeTx e).rxGathered = s.rxGathered := rfl
@[simp] theorem State.completeTx_txPending (e : Status) : (s.completeTx e).txPending = none := rfl
@[simp] theorem State.completeTx_txBursts (e : Status) : (s.completeTx e).txBursts = s.txBursts := rfl
@[simp] theorem State.completeTx_rxStream (e : Status) : (s.completeTx e).rxStream = s.rxStream := rfl
@[simp] theorem State.completeTx_rxCursor (e : Status) : (s.completeTx e).rxCursor = s.rxCursor := rfl
@[simp] theorem State.completeTx_closeStrobes (e : Status) : (s.completeTx e).closeStrobes = s.closeStrobes := rfl
@[simp] theorem State.completeTx_events (e : Status) : (s.completeTx e).events = s.events := rfl

/-! ### `completeRx` -/

@[simp] theorem State.completeRx_life (e : Status) : (s.completeRx e).life = s.life := rfl
@[simp] theorem State.completeRx_idKind (e : Status) : (s.completeRx e).idKind = s.idKind := rfl
@[simp] theorem State.completeRx_txFtype (e : Status) : (s.completeRx e).txFtype = s.txFtype := rfl
@[simp] theorem State.completeRx_txId (e : Status) : (s.completeRx e).txId = s.txId := rfl
@[simp] theorem State.completeRx_txPayload (e : Status) : (s.completeRx e).txPayload = s.txPayload := rfl
@[simp] theorem State.completeRx_txStatus (e : Status) : (s.completeRx e).txStatus = s.txStatus := rfl
@[simp] theorem State.completeRx_txStatusValid (e : Status) : (s.completeRx e).txStatusValid = s.txStatusValid := rfl
@[simp] theorem State.completeRx_rxFtype (e : Status) : (s.completeRx e).rxFtype = s.rxFtype := rfl
@[simp] theorem State.completeRx_rxId (e : Status) : (s.completeRx e).rxId = s.rxId := rfl
@[simp] theorem State.completeRx_rxPayload (e : Status) : (s.completeRx e).rxPayload = s.rxPayload := rfl
@[simp] theorem State.completeRx_rxFrameValid (e : Status) : (s.completeRx e).rxFrameValid = false := rfl
@[simp] theorem State.completeRx_rxStatus (e : Status) : (s.completeRx e).rxStatus = e := rfl
@[simp] theorem State.completeRx_rxStatusValid (e : Status) : (s.completeRx e).rxStatusValid = true := rfl
@[simp] theorem State.completeRx_ctlStatus (e : Status) : (s.completeRx e).ctlStatus = s.ctlStatus := rfl
@[simp] theorem State.completeRx_ctlStatusValid (e : Status) : (s.completeRx e).ctlStatusValid = s.ctlStatusValid := rfl
@[simp] theorem State.completeRx_rxPhase (e : Status) : (s.completeRx e).rxPhase = .idle := rfl
@[simp] theorem State.completeRx_rxCfg (e : Status) : (s.completeRx e).rxCfg = s.rxCfg := rfl
@[simp] theorem State.completeRx_rxCnt (e : Status) : (s.completeRx e).rxCnt = s.rxCnt := rfl
@[simp] theorem State.completeRx_rxAcc (e : Status) : (s.completeRx e).rxAcc = s.rxAcc := rfl
@[simp] theorem State.completeRx_rxGathered (e : Status) : (s.completeRx e).rxGathered = s.rxGathered := rfl
@[simp] theorem State.completeRx_txPending (e : Status) : (s.completeRx e).txPending = s.txPending := rfl
@[simp] theorem State.completeRx_txBursts (e : Status) : (s.completeRx e).txBursts = s.txBursts := rfl
@[simp] theorem State.completeRx_rxStream (e : Status) : (s.completeRx e).rxStream = s.rxStream := rfl
@[simp] theorem State.completeRx_rxCursor (e : Status) : (s.completeRx e).rxCursor = s.rxCursor := rfl
@[simp] theorem State.completeRx_closeStrobes (e : Status) : (s.completeRx e).closeStrobes = s.closeStrobes := rfl
@[simp] theorem State.completeRx_events (e : Status) : (s.completeRx e).events = s.events := rfl

/-! ### `writeRxFrame` -/

@[simp] theorem State.writeRxFrame_life (ft : FrameType) (id : Word) (p : List Byte) : (s.writeRxFrame ft id p).life = s.life := rfl
@[simp] theorem State.writeRxFrame_idKind (ft : FrameType) (id : Word) (p : List Byte) : (s.writeRxFrame ft id p).idKind = s.idKind := rfl
@[simp] theorem State.writeRxFrame_txFtype (ft : FrameType) (id : Word) (p : List Byte) : (s.writeRxFrame ft id p).txFtype = s.txFtype := rfl
@[simp] theorem State.writeRxFrame_txId (ft : FrameType) (id : Word) (p : List Byte) : (s.writeRxFrame ft id p).txId = s.txId := rfl
@[simp] theorem State.writeRxFrame_txPayload (ft : FrameType) (id : Word) (p : List Byte) : (s.writeRxFrame ft id p).txPayload = s.txPayload := rfl
@[simp] theorem State.writeRxFrame_txStatus (ft : FrameType) (id : Word) (p : List Byte) : (s.writeRxFrame ft id p).txStatus = s.txStatus := rfl
@[simp] theorem State.writeRxFrame_txStatusValid (ft : FrameType) (id : Word) (p : List Byte) : (s.writeRxFrame ft id p).txStatusValid = s.txStatusValid := rfl
@[simp] theorem State.writeRxFrame_rxFtype (ft : FrameType) (id : Word) (p : List Byte) : (s.writeRxFrame ft id p).rxFtype = ft := rfl
@[simp] theorem State.writeRxFrame_rxId (ft : FrameType) (id : Word) (p : List Byte) : (s.writeRxFrame ft id p).rxId = id := rfl
@[simp] theorem State.writeRxFrame_rxPayload (ft : FrameType) (id : Word) (p : List Byte) : (s.writeRxFrame ft id p).rxPayload = p := rfl
@[simp] theorem State.writeRxFrame_rxFrameValid (ft : FrameType) (id : Word) (p : List Byte) : (s.writeRxFrame ft id p).rxFrameValid = true := rfl
@[simp] theorem State.writeRxFrame_rxStatus (ft : FrameType) (id : Word) (p : List Byte) : (s.writeRxFrame ft id p).rxStatus = s.rxStatus := rfl
@[simp] theorem State.writeRxFrame_rxStatusValid (ft : FrameType) (id : Word) (p : List Byte) : (s.writeRxFrame ft id p).rxStatusValid = s.rxStatusValid := rfl
@[simp] theorem State.writeRxFrame_ctlStatus (ft : FrameType) (id : Word) (p : List Byte) : (s.writeRxFrame ft id p).ctlStatus = s.ctlStatus := rfl
@[simp] theorem State.writeRxFrame_ctlStatusValid (ft : FrameType) (id : Word) (p : List Byte) : (s.writeRxFrame ft id p).ctlStatusValid = s.ctlStatusValid := rfl
@[simp] theorem State.writeRxFrame_rxPhase (ft : FrameType) (id : Word) (p : List Byte) : (s.writeRxFrame ft id p).rxPhase = s.rxPhase := rfl
@[simp] theorem State.writeRxFrame_rxCfg (ft : FrameType) (id : Word) (p : List Byte) : (s.writeRxFrame ft id p).rxCfg = s.rxCfg := rfl
@[simp] theorem State.writeRxFrame_rxCnt (ft : FrameType) (id : Word) (p : List Byte) : (s.writeRxFrame ft id p).rxCnt = s.rxCnt := rfl
@[simp] theorem State.writeRxFrame_rxAcc (ft : FrameType) (id : Word) (p : List Byte) : (s.writeRxFrame ft id p).rxAcc = s.rxAcc := rfl
@[simp] theorem State.writeRxFrame_rxGathered (ft : FrameType) (id : Word) (p : List Byte) : (s.writeRxFrame ft id p).rxGathered = s.rxGathered := rfl
@[simp] theorem State.writeRxFrame_txPending (ft : FrameType) (id : Word) (p : List Byte) : (s.writeRxFrame ft id p).txPending = s.txPending := rfl
@[simp] theorem State.writeRxFrame_txBursts (ft : FrameType) (id : Word) (p : List Byte) : (s.writeRxFrame ft id p).txBursts = s.txBursts := rfl
@[simp] theorem State.writeRxFrame_rxStream (ft : FrameType) (id : Word) (p : List Byte) : (s.writeRxFrame ft id p).rxStream = s.rxStream := rfl
@[simp] theorem State.writeRxFrame_rxCursor (ft : FrameType) (id : Word) (p : List Byte) : (s.writeRxFrame ft id p).rxCursor = s.rxCursor := rfl
@[simp] theorem State.writeRxFrame_closeStrobes (ft : FrameType) (id : Word) (p : List Byte) : (s.writeRxFrame ft id p).closeStrobes = s.closeStrobes := rfl
@[simp] theorem State.writeRxFrame_events (ft : FrameType) (id : Word) (p : List Byte) : (s.writeRxFrame ft id p).events = s.events := rfl

/-! ### `holdBurst` -/

@[simp] theorem State.holdBurst_life (b : List Byte) : (s.holdBurst b).life = s.life := rfl
@[simp] theorem State.holdBurst_idKind (b : List Byte) : (s.holdBurst b).idKind = s.idKind := rfl
@[simp] theorem State.holdBurst_txFtype (b : List Byte) : (s.holdBurst b).txFtype = s.txFtype := rfl
@[simp] theorem State.holdBurst_txId (b : List Byte) : (s.holdBurst b).txId = s.txId := rfl
@[simp] theorem State.holdBurst_txPayload (b : List Byte) : (s.holdBurst b).txPayload = s.txPayload := rfl
@[simp] theorem State.holdBurst_txStatus (b : List Byte) : (s.holdBurst b).txStatus = s.txStatus := rfl
@[simp] theorem State.holdBurst_txStatusValid (b : List Byte) : (s.holdBurst b).txStatusValid = s.txStatusValid := rfl
@[simp] theorem State.holdBurst_rxFtype (b : List Byte) : (s.holdBurst b).rxFtype = s.rxFtype := rfl
@[simp] theorem State.holdBurst_rxId (b : List Byte) : (s.holdBurst b).rxId = s.rxId := rfl
@[simp] theorem State.holdBurst_rxPayload (b : List Byte) : (s.holdBurst b).rxPayload = s.rxPayload := rfl
@[simp] theorem State.holdBurst_rxFrameValid (b : List Byte) : (s.holdBurst b).rxFrameValid = s.rxFrameValid := rfl
@[simp] theorem State.holdBurst_rxStatus (b : List Byte) : (s.holdBurst b).rxStatus = s.rxStatus := rfl
@[simp] theorem State.holdBurst_rxStatusValid (b : List Byte) : (s.holdBurst b).rxStatusValid = s.rxStatusValid := rfl
@[simp] theorem State.holdBurst_ctlStatus (b : List Byte) : (s.holdBurst b).ctlStatus = s.ctlStatus := rfl
@[simp] theorem State.holdBurst_ctlStatusValid (b : List Byte) : (s.holdBurst b).ctlStatusValid = s.ctlStatusValid := rfl
@[simp] theorem State.holdBurst_rxPhase (b : List Byte) : (s.holdBurst b).rxPhase = s.rxPhase := rfl
@[simp] theorem State.holdBurst_rxCfg (b : List Byte) : (s.holdBurst b).rxCfg = s.rxCfg := rfl
@[simp] theorem State.holdBurst_rxCnt (b : List Byte) : (s.holdBurst b).rxCnt = s.rxCnt := rfl
@[simp] theorem State.holdBurst_rxAcc (b : List Byte) : (s.holdBurst b).rxAcc = s.rxAcc := rfl
@[simp] theorem State.holdBurst_rxGathered (b : List Byte) : (s.holdBurst b).rxGathered = s.rxGathered := rfl
@[simp] theorem State.holdBurst_txPending (b : List Byte) : (s.holdBurst b).txPending = some b := rfl
@[simp] theorem State.holdBurst_txBursts (b : List Byte) : (s.holdBurst b).txBursts = s.txBursts := rfl
@[simp] theorem State.holdBurst_rxStream (b : List Byte) : (s.holdBurst b).rxStream = s.rxStream := rfl
@[simp] theorem State.holdBurst_rxCursor (b : List Byte) : (s.holdBurst b).rxCursor = s.rxCursor := rfl
@[simp] theorem State.holdBurst_closeStrobes (b : List Byte) : (s.holdBurst b).closeStrobes = s.closeStrobes := rfl
@[simp] theorem State.holdBurst_events (b : List Byte) : (s.holdBurst b).events = s.events := rfl

/-! ### `appendTx` -/

@[simp] theorem State.appendTx_life (b : List Byte) : (s.appendTx b).life = s.life := rfl
@[simp] theorem State.appendTx_idKind (b : List Byte) : (s.appendTx b).idKind = s.idKind := rfl
@[simp] theorem State.appendTx_txFtype (b : List Byte) : (s.appendTx b).txFtype = s.txFtype := rfl
@[simp] theorem State.appendTx_txId (b : List Byte) : (s.appendTx b).txId = s.txId := rfl
@[simp] theorem State.appendTx_txPayload (b : List Byte) : (s.appendTx b).txPayload = s.txPayload := rfl
@[simp] theorem State.appendTx_txStatus (b : List Byte) : (s.appendTx b).txStatus = s.txStatus := rfl
@[simp] theorem State.appendTx_txStatusValid (b : List Byte) : (s.appendTx b).txStatusValid = s.txStatusValid := rfl
@[simp] theorem State.appendTx_rxFtype (b : List Byte) : (s.appendTx b).rxFtype = s.rxFtype := rfl
@[simp] theorem State.appendTx_rxId (b : List Byte) : (s.appendTx b).rxId = s.rxId := rfl
@[simp] theorem State.appendTx_rxPayload (b : List Byte) : (s.appendTx b).rxPayload = s.rxPayload := rfl
@[simp] theorem State.appendTx_rxFrameValid (b : List Byte) : (s.appendTx b).rxFrameValid = s.rxFrameValid := rfl
@[simp] theorem State.appendTx_rxStatus (b : List Byte) : (s.appendTx b).rxStatus = s.rxStatus := rfl
@[simp] theorem State.appendTx_rxStatusValid (b : List Byte) : (s.appendTx b).rxStatusValid = s.rxStatusValid := rfl
@[simp] theorem State.appendTx_ctlStatus (b : List Byte) : (s.appendTx b).ctlStatus = s.ctlStatus := rfl
@[simp] theorem State.appendTx_ctlStatusValid (b : List Byte) : (s.appendTx b).ctlStatusValid = s.ctlStatusValid := rfl
@[simp] theorem State.appendTx_rxPhase (b : List Byte) : (s.appendTx b).rxPhase = s.rxPhase := rfl
@[simp] theorem State.appendTx_rxCfg (b : List Byte) : (s.appendTx b).rxCfg = s.rxCfg := rfl
@[simp] theorem State.appendTx_rxCnt (b : List Byte) : (s.appendTx b).rxCnt = s.rxCnt := rfl
@[simp] theorem State.appendTx_rxAcc (b : List Byte) : (s.appendTx b).rxAcc = s.rxAcc := rfl
@[simp] theorem State.appendTx_rxGathered (b : List Byte) : (s.appendTx b).rxGathered = s.rxGathered := rfl
@[simp] theorem State.appendTx_txPending (b : List Byte) : (s.appendTx b).txPending = s.txPending := rfl
@[simp] theorem State.appendTx_txBursts (b : List Byte) : (s.appendTx b).txBursts = s.txBursts ++ [b] := rfl
@[simp] theorem State.appendTx_rxStream (b : List Byte) : (s.appendTx b).rxStream = s.rxStream := rfl
@[simp] theorem State.appendTx_rxCursor (b : List Byte) : (s.appendTx b).rxCursor = s.rxCursor := rfl
@[simp] theorem State.appendTx_closeStrobes (b : List Byte) : (s.appendTx b).closeStrobes = s.closeStrobes := rfl
@[simp] theorem State.appendTx_events (b : List Byte) : (s.appendTx b).events = s.events := rfl

/-! ### `consume` -/

@[simp] theorem State.consume_life (n : Nat) : (s.consume n).life = s.life := rfl
@[simp] theorem State.consume_idKind (n : Nat) : (s.consume n).idKind = s.idKind := rfl
@[simp] theorem State.consume_txFtype (n : Nat) : (s.consume n).txFtype = s.txFtype := rfl
@[simp] theorem State.consume_txId (n : Nat) : (s.consume n).txId = s.txId := rfl
@[simp] theorem State.consume_txPayload (n : Nat) : (s.consume n).txPayload = s.txPayload := rfl
@[simp] theorem State.consume_txStatus (n : Nat) : (s.consume n).txStatus = s.txStatus := rfl
@[simp] theorem State.consume_txStatusValid (n : Nat) : (s.consume n).txStatusValid = s.txStatusValid := rfl
@[simp] theorem State.consume_rxFtype (n : Nat) : (s.consume n).rxFtype = s.rxFtype := rfl
@[simp] theorem State.consume_rxId (n : Nat) : (s.consume n).rxId = s.rxId := rfl
@[simp] theorem State.consume_rxPayload (n : Nat) : (s.consume n).rxPayload = s.rxPayload := rfl
@[simp] theorem State.consume_rxFrameValid (n : Nat) : (s.consume n).rxFrameValid = s.rxFrameValid := rfl
@[simp] theorem State.consume_rxStatus (n : Nat) : (s.consume n).rxStatus = s.rxStatus := rfl
@[simp] theorem State.consume_rxStatusValid (n : Nat) : (s.consume n).rxStatusValid = s.rxStatusValid := rfl
@[simp] theorem State.consume_ctlStatus (n : Nat) : (s.consume n).ctlStatus = s.ctlStatus := rfl
@[simp] theorem State.consume_ctlStatusValid (n : Nat) : (s.consume n).ctlStatusValid = s.ctlStatusValid := rfl
@[simp] theorem State.consume_rxPhase (n : Nat) : (s.consume n).rxPhase = s.rxPhase := rfl
@[simp] theorem State.consume_rxCfg (n : Nat) : (s.consume n).rxCfg = s.rxCfg := rfl
@[simp] theorem State.consume_rxCnt (n : Nat) : (s.consume n).rxCnt = s.rxCnt := rfl
@[simp] theorem State.consume_rxAcc (n : Nat) : (s.consume n).rxAcc = s.rxAcc := rfl
@[simp] theorem State.consume_rxGathered (n : Nat) : (s.consume n).rxGathered = s.rxGathered := rfl
@[simp] theorem State.consume_txPending (n : Nat) : (s.consume n).txPending = s.txPending := rfl
@[simp] theorem State.consume_txBursts (n : Nat) : (s.consume n).txBursts = s.txBursts := rfl
@[simp] theorem State.consume_rxStream (n : Nat) : (s.consume n).rxStream = s.rxStream.drop n := rfl
@[simp] theorem State.consume_rxCursor (n : Nat) : (s.consume n).rxCursor = s.rxCursor + n := rfl
@[simp] theorem State.consume_closeStrobes (n : Nat) : (s.consume n).closeStrobes = s.closeStrobes := rfl
@[simp] theorem State.consume_events (n : Nat) : (s.consume n).events = s.events := rfl

/-! ### `arrive` -/

@[simp] theorem State.arrive_life (bs : List Byte) : (s.arrive bs).life = s.life := rfl
@[simp] theorem State.arrive_idKind (bs : List Byte) : (s.arrive bs).idKind = s.idKind := rfl
@[simp] theorem State.arrive_txFtype (bs : List Byte) : (s.arrive bs).txFtype = s.txFtype := rfl
@[simp] theorem State.arrive_txId (bs : List Byte) : (s.arrive bs).txId = s.txId := rfl
@[simp] theorem State.arrive_txPayload (bs : List Byte) : (s.arrive bs).txPayload = s.txPayload := rfl
@[simp] theorem State.arrive_txStatus (bs : List Byte) : (s.arrive bs).txStatus = s.txStatus := rfl
@[simp] theorem State.arrive_txStatusValid (bs : List Byte) : (s.arrive bs).txStatusValid = s.txStatusValid := rfl
@[simp] theorem State.arrive_rxFtype (bs : List Byte) : (s.arrive bs).rxFtype = s.rxFtype := rfl
@[simp] theorem State.arrive_rxId (bs : List Byte) : (s.arrive bs).rxId = s.rxId := rfl
@[simp] theorem State.arrive_rxPayload (bs : List Byte) : (s.arrive bs).rxPayload = s.rxPayload := rfl
@[simp] theorem State.arrive_rxFrameValid (bs : List Byte) : (s.arrive bs).rxFrameValid = s.rxFrameValid := rfl
@[simp] theorem State.arrive_rxStatus (bs : List Byte) : (s.arrive bs).rxStatus = s.rxStatus := rfl
@[simp] theorem State.arrive_rxStatusValid (bs : List Byte) : (s.arrive bs).rxStatusValid = s.rxStatusValid := rfl
@[simp] theorem State.arrive_ctlStatus (bs : List Byte) : (s.arrive bs).ctlStatus = s.ctlStatus := rfl
@[simp] theorem State.arrive_ctlStatusValid (bs : List Byte) : (s.arrive bs).ctlStatusValid = s.ctlStatusValid := rfl
@[simp] theorem State.arrive_rxPhase (bs : List Byte) : (s.arrive bs).rxPhase = s.rxPhase := rfl
@[simp] theorem State.arrive_rxCfg (bs : List Byte) : (s.arrive bs).rxCfg = s.rxCfg := rfl
@[simp] theorem State.arrive_rxCnt (bs : List Byte) : (s.arrive bs).rxCnt = s.rxCnt := rfl
@[simp] theorem State.arrive_rxAcc (bs : List Byte) : (s.arrive bs).rxAcc = s.rxAcc := rfl
@[simp] theorem State.arrive_rxGathered (bs : List Byte) : (s.arrive bs).rxGathered = s.rxGathered := rfl
@[simp] theorem State.arrive_txPending (bs : List Byte) : (s.arrive bs).txPending = s.txPending := rfl
@[simp] theorem State.arrive_txBursts (bs : List Byte) : (s.arrive bs).txBursts = s.txBursts := rfl
@[simp] theorem State.arrive_rxStream (bs : List Byte) : (s.arrive bs).rxStream = s.rxStream ++ bs := rfl
@[simp] theorem State.arrive_rxCursor (bs : List Byte) : (s.arrive bs).rxCursor = s.rxCursor := rfl
@[simp] theorem State.arrive_closeStrobes (bs : List Byte) : (s.arrive bs).closeStrobes = s.closeStrobes := rfl
@[simp] theorem State.arrive_events (bs : List Byte) : (s.arrive bs).events = s.events := rfl

/-! ### `startDecode` -/

@[simp] theorem State.startDecode_life : (s.startDecode).life = s.life := rfl
@[simp] theorem State.startDecode_idKind : (s.startDecode).idKind = s.idKind := rfl
@[simp] theorem State.startDecode_txFtype : (s.startDecode).txFtype = s.txFtype := rfl
@[simp] theorem State.startDecode_txId : (s.startDecode).txId = s.txId := rfl
@[simp] theorem State.startDecode_txPayload : (s.startDecode).txPayload = s.txPayload := rfl
@[simp] theorem State.startDecode_txStatus : (s.startDecode).txStatus = s.txStatus := rfl
@[simp] theorem State.startDecode_txStatusValid : (s.startDecode).txStatusValid = s.txStatusValid := rfl
@[simp] theorem State.startDecode_rxFtype : (s.startDecode).rxFtype = s.rxFtype := rfl
@[simp] theorem State.startDecode_rxId : (s.startDecode).rxId = s.rxId := rfl
@[simp] theorem State.startDecode_rxPayload : (s.startDecode).rxPayload = s.rxPayload := rfl
@[simp] theorem State.startDecode_rxFrameValid : (s.startDecode).rxFrameValid = s.rxFrameValid := rfl
@[simp] theorem State.startDecode_rxStatus : (s.startDecode).rxStatus = s.rxStatus := rfl
@[simp] theorem State.startDecode_rxStatusValid : (s.startDecode).rxStatusValid = s.rxStatusValid := rfl
@[simp] theorem State.startDecode_ctlStatus : (s.startDecode).ctlStatus = s.ctlStatus := rfl
@[simp] theorem State.startDecode_ctlStatusValid : (s.startDecode).ctlStatusValid = s.ctlStatusValid := rfl
@[simp] theorem State.startDecode_rxPhase : (s.startDecode).rxPhase = .start := rfl
@[simp] theorem State.startDecode_rxCfg : (s.startDecode).rxCfg = 0#8 := rfl
@[simp] theorem State.startDecode_rxCnt : (s.startDecode).rxCnt = 1 := rfl
@[simp] theorem State.startDecode_rxAcc : (s.startDecode).rxAcc = 0#32 := rfl
@[simp] theorem State.startDecode_rxGathered : (s.startDecode).rxGathered = [] := rfl
@[simp] theorem State.startDecode_txPending : (s.startDecode).txPending = s.txPending := rfl
@[simp] theorem State.startDecode_txBursts : (s.startDecode).txBursts = s.txBursts := rfl
@[simp] theorem State.startDecode_rxStream : (s.startDecode).rxStream = s.rxStream := rfl
@[simp] theorem State.startDecode_rxCursor : (s.startDecode).rxCursor = s.rxCursor := rfl
@[simp] theorem State.startDecode_closeStrobes : (s.startDecode).closeStrobes = s.closeStrobes := rfl
@[simp] theorem State.startDecode_events : (s.startDecode).events = s.events := rfl

/-! ### `enterPhase` -/

@[simp] theorem State.enterPhase_life (ph : Phase) (n : Nat) : (s.enterPhase ph n).life = s.life := rfl
@[simp] theorem State.enterPhase_idKind (ph : Phase) (n : Nat) : (s.enterPhase ph n).idKind = s.idKind := rfl
@[simp] theorem State.enterPhase_txFtype (ph : Phase) (n : Nat) : (s.enterPhase ph n).txFtype = s.txFtype := rfl
@[simp] theorem State.enterPhase_txId (ph : Phase) (n : Nat) : (s.enterPhase ph n).txId = s.txId := rfl
@[simp] theorem State.enterPhase_txPayload (ph : Phase) (n : Nat) : (s.enterPhase ph n).txPayload = s.txPayload := rfl
@[simp] theorem State.enterPhase_txStatus (ph : Phase) (n : Nat) : (s.enterPhase ph n).txStatus = s.txStatus := rfl
@[simp] theorem State.enterPhase_txStatusValid (ph : Phase) (n : Nat) : (s.enterPhase ph n).txStatusValid = s.txStatusValid := rfl
@[simp] theorem State.enterPhase_rxFtype (ph : Phase) (n : Nat) : (s.enterPhase ph n).rxFtype = s.rxFtype := rfl
@[simp] theorem State.enterPhase_rxId (ph : Phase) (n : Nat) : (s.enterPhase ph n).rxId = s.rxId := rfl
@[simp] theorem State.enterPhase_rxPayload (ph : Phase) (n : Nat) : (s.enterPhase ph n).rxPayload = s.rxPayload := rfl
@[simp] theorem State.enterPhase_rxFrameValid (ph : Phase) (n : Nat) : (s.enterPhase ph n).rxFrameValid = s.rxFrameValid := rfl
@[simp] theorem State.enterPhase_rxStatus (ph : Phase) (n : Nat) : (s.enterPhase ph n).rxStatus = s.rxStatus := rfl
@[simp] theorem State.enterPhase_rxStatusValid (ph : Phase) (n : Nat) : (s.enterPhase ph n).rxStatusValid = s.rxStatusValid := rfl
@[simp] theorem State.enterPhase_ctlStatus (ph : Phase) (n : Nat) : (s.enterPhase ph n).ctlStatus = s.ctlStatus := rfl
@[simp] theorem State.enterPhase_ctlStatusValid (ph : Phase) (n : Nat) : (s.enterPhase ph n).ctlStatusValid = s.ctlStatusValid := rfl
@[simp] theorem State.enterPhase_rxPhase (ph : Phase) (n : Nat) : (s.enterPhase ph n).rxPhase = ph := rfl
@[simp] theorem State.enterPhase_rxCfg (ph : Phase) (n : Nat) : (s.enterPhase ph n).rxCfg = s.rxCfg := rfl
@[simp] theorem State.enterPhase_rxCnt (ph : Phase) (n : Nat) : (s.enterPhase ph n).rxCnt = n := rfl
@[simp] theorem State.enterPhase_rxAcc (ph : Phase) (n : Nat) : (s.enterPhase ph n).rxAcc = s.rxAcc := rfl
@[simp] theorem State.enterPhase_rxGathered (ph : Phase) (n : Nat) : (s.enterPhase ph n).rxGathered = s.rxGathered := rfl
@[simp] theorem State.enterPhase_txPending (ph : Phase) (n : Nat) : (s.enterPhase ph n).txPending = s.txPending := rfl
@[simp] theorem State.enterPhase_txBursts (ph : Phase) (n : Nat) : (s.enterPhase ph n).txBursts = s.txBursts := rfl
@[simp] theorem State.enterPhase_rxStream (ph : Phase) (n : Nat) : (s.enterPhase ph n).rxStream = s.rxStream := rfl
@[simp] theorem State.enterPhase_rxCursor (ph : Phase) (n : Nat) : (s.enterPhase ph n).rxCursor = s.rxCursor := rfl
@[simp] theorem State.enterPhase_closeStrobes (ph : Phase) (n : Nat) : (s.enterPhase ph n).closeStrobes = s.closeStrobes := rfl
@[simp] theorem State.enterPhase_events (ph : Phase) (n : Nat) : (s.enterPhase ph n).events = s.events := rfl

/-! ### `latch` -/

@[simp] theorem State.latch_life (c : Byte) (id : Word) (p : List Byte) : (s.latch c id p).life = s.life := rfl
@[simp] theorem State.latch_idKind (c : Byte) (id : Word) (p : List Byte) : (s.latch c id p).idKind = s.idKind := rfl
@[simp] theorem State.latch_txFtype (c : Byte) (id : Word) (p : List Byte) : (s.latch c id p).txFtype = s.txFtype := rfl
@[simp] theorem State.latch_txId (c : Byte) (id : Word) (p : List Byte) : (s.latch c id p).txId = s.txId := rfl
@[simp] theorem State.latch_txPayload (c : Byte) (id : Word) (p : List Byte) : (s.latch c id p).txPayload = s.txPayload := rfl
@[simp] theorem State.latch_txStatus (c : Byte) (id : Word) (p : List Byte) : (s.latch c id p).txStatus = s.txStatus := rfl
@[simp] theorem State.latch_txStatusValid (c : Byte) (id : Word) (p : List Byte) : (s.latch c id p).txStatusValid = s.txStatusValid := rfl
@[simp] theorem State.latch_rxFtype (c : Byte) (id : Word) (p : List Byte) : (s.latch c id p).rxFtype = s.rxFtype := rfl
@[simp] theorem State.latch_rxId (c : Byte) (id : Word) (p : List Byte) : (s.latch c id p).rxId = s.rxId := rfl
@[simp] theorem State.latch_rxPayload (c : Byte) (id : Word) (p : List Byte) : (s.latch c id p).rxPayload = s.rxPayload := rfl
@[simp] theorem State.latch_rxFrameValid (c : Byte) (id : Word) (p : List Byte) : (s.latch c id p).rxFrameValid = s.rxFrameValid := rfl
@[simp] theorem State.latch_rxStatus (c : Byte) (id : Word) (p : List Byte) : (s.latch c id p).rxStatus = s.rxStatus := rfl
@[simp] theorem State.latch_rxStatusValid (c : Byte) (id : Word) (p : List Byte) : (s.latch c id p).rxStatusValid = s.rxStatusValid := rfl
@[simp] theorem State.latch_ctlStatus (c : Byte) (id : Word) (p : List Byte) : (s.latch c id p).ctlStatus = s.ctlStatus := rfl
@[simp] theorem State.latch_ctlStatusValid (c : Byte) (id : Word) (p : List Byte) : (s.latch c id p).ctlStatusValid = s.ctlStatusValid := rfl
@[simp] theorem State.latch_rxPhase (c : Byte) (id : Word) (p : List Byte) : (s.latch c id p).rxPhase = s.rxPhase := rfl
@[simp] theorem State.latch_rxCfg (c : Byte) (id : Word) (p : List Byte) : (s.latch c id p).rxCfg = c := rfl
@[simp] theorem State.latch_rxCnt (c : Byte) (id : Word) (p : List Byte) : (s.latch c id p).rxCnt = s.rxCnt := rfl
@[simp] theorem State.latch_rxAcc (c : Byte) (id : Word) (p : List Byte) : (s.latch c id p).rxAcc = id := rfl
@[simp] theorem State.latch_rxGathered (c : Byte) (id : Word) (p : List Byte) : (s.latch c id p).rxGathered = p := rfl
@[simp] theorem State.latch_txPending (c : Byte) (id : Word) (p : List Byte) : (s.latch c id p).txPending = s.txPending := rfl
@[simp] theorem State.latch_txBursts (c : Byte) (id : Word) (p : List Byte) : (s.latch c id p).txBursts = s.txBursts := rfl
@[simp] theorem State.latch_rxStream (c : Byte) (id : Word) (p : List Byte) : (s.latch c id p).rxStream = s.rxStream := rfl
@[simp] theorem State.latch_rxCursor (c : Byte) (id : Word) (p : List Byte) : (s.latch c id p).rxCursor = s.rxCursor := rfl
@[simp] theorem State.latch_closeStrobes (c : Byte) (id : Word) (p : List Byte) : (s.latch c id p).closeStrobes = s.closeStrobes := rfl
@[simp] theorem State.latch_events (c : Byte) (id : Word) (p : List Byte) : (s.latch c id p).events = s.events := rfl

/-! ### `withEvents` -/

@[simp] theorem State.withEvents_life (es : List Event) : (s.withEvents es).life = s.life := rfl
@[simp] theorem State.withEvents_idKind (es : List Event) : (s.withEvents es).idKind = s.idKind := rfl
@[simp] theorem State.withEvents_txFtype (es : List Event) : (s.withEvents es).txFtype = s.txFtype := rfl
@[simp] theorem State.withEvents_txId (es : List Event) : (s.withEvents es).txId = s.txId := rfl
@[simp] theorem State.withEvents_txPayload (es : List Event) : (s.withEvents es).txPayload = s.txPayload := rfl
@[simp] theorem State.withEvents_txStatus (es : List Event) : (s.withEvents es).txStatus = s.txStatus := rfl
@[simp] theorem State.withEvents_txStatusValid (es : List Event) : (s.withEvents es).txStatusValid = s.txStatusValid := rfl
@[simp] theorem State.withEvents_rxFtype (es : List Event) : (s.withEvents es).rxFtype = s.rxFtype := rfl
@[simp] theorem State.withEvents_rxId (es : List Event) : (s.withEvents es).rxId = s.rxId := rfl
@[simp] theorem State.withEvents_rxPayload (es : List Event) : (s.withEvents es).rxPayload = s.rxPayload := rfl
@[simp] theorem State.withEvents_rxFrameValid (es : List Event) : (s.withEvents es).rxFrameValid = s.rxFrameValid := rfl
@[simp] theorem State.withEvents_rxStatus (es : List Event) : (s.withEvents es).rxStatus = s.rxStatus := rfl
@[simp] theorem State.withEvents_rxStatusValid (es : List Event) : (s.withEvents es).rxStatusValid = s.rxStatusValid := rfl
@[simp] theorem State.withEvents_ctlStatus (es : List Event) : (s.withEvents es).ctlStatus = s.ctlStatus := rfl
@[simp] theorem State.withEvents_ctlStatusValid (es : List Event) : (s.withEvents es).ctlStatusValid = s.ctlStatusValid := rfl
@[simp] theorem State.withEvents_rxPhase (es : List Event) : (s.withEvents es).rxPhase = s.rxPhase := rfl
@[simp] theorem State.withEvents_rxCfg (es : List Event) : (s.withEvents es).rxCfg = s.rxCfg := rfl
@[simp] theorem State.withEvents_rxCnt (es : List Event) : (s.withEvents es).rxCnt = s.rxCnt := rfl
@[simp] theorem State.withEvents_rxAcc (es : List Event) : (s.withEvents es).rxAcc = s.rxAcc := rfl
@[simp] theorem State.withEvents_rxGathered (es : List Event) : (s.withEvents es).rxGathered = s.rxGathered := rfl
@[simp] theorem State.withEvents_txPending (es : List Event) : (s.withEvents es).txPending = s.txPending := rfl
@[simp] theorem State.withEvents_txBursts (es : List Event) : (s.withEvents es).txBursts = s.txBursts := rfl
@[simp] theorem State.withEvents_rxStream (es : List Event) : (s.withEvents es).rxStream = s.rxStream := rfl
@[simp] theorem State.withEvents_rxCursor (es : List Event) : (s.withEvents es).rxCursor = s.rxCursor := rfl
@[simp] theorem State.withEvents_closeStrobes (es : List Event) : (s.withEvents es).closeStrobes = s.closeStrobes := rfl
@[simp] theorem State.withEvents_events (es : List Event) : (s.withEvents es).events = es := rfl

/-! ### `raise` is the completion of its channel (R126) -/

@[simp] theorem State.raise_ctl (e : Status) : s.raise .ctl e = s.completeCtl e := rfl
@[simp] theorem State.raise_txc (e : Status) : s.raise .txc e = s.completeTx e := rfl
@[simp] theorem State.raise_rxc (e : Status) : s.raise .rxc e = s.completeRx e := rfl

end Sys2Proof.Machine
end

