-- ==== Sys2Proof/Laws/Wire.lean ====
section
/-! SUPPORT. The wire fields: identifier bytes as numbers, the fields of a ConfigByte read back, and
what a frame body splits into. -/

namespace Sys2Proof

/-! ### Identifier bytes -/

/-- The number that bytes are, least significant first. -/
def natOfBytes : List Byte → Nat
  | [] => 0
  | b :: bs => b.toNat + 256 * natOfBytes bs

theorem natOfBytes_lt (bs : List Byte) : natOfBytes bs < 256 ^ bs.length := by
  induction bs with
  | nil => simp [natOfBytes]
  | cons b bs ih =>
    have hb := b.isLt
    simp only [natOfBytes, List.length_cons, Nat.pow_succ]
    omega

/-- R94: up to four identifier bytes are the number they spell. -/
theorem toNat_idOfBytes (bs : List Byte) (h : bs.length ≤ 4) :
    (idOfBytes bs).toNat = natOfBytes bs := by
  induction bs with
  | nil => rfl
  | cons b bs ih =>
    have ih := ih (by simp at h; omega)
    have hlt : natOfBytes bs < 256 ^ 3 :=
      Nat.lt_of_lt_of_le (natOfBytes_lt bs) (Nat.pow_le_pow_right (by decide) (by simp at h; omega))
    have hb := b.isLt
    have hsh : natOfBytes bs <<< 8 % 2 ^ 32 = 2 ^ 8 * natOfBytes bs := by
      rw [Nat.shiftLeft_eq]; omega
    simp only [idOfBytes, natOfBytes, BitVec.toNat_or, BitVec.toNat_setWidth, BitVec.toNat_shiftLeft, ih,
      hsh]
    rw [Nat.mod_eq_of_lt (by omega), Nat.or_comm, ← Nat.two_pow_add_eq_or_of_lt hb]
    omega

@[simp] theorem length_idBytes (w : Nat) (id : Word) : (idBytes w id).length = w := by
  simp [idBytes]

theorem toNat_idByte (id : Word) (k : Nat) : (idByte id k).toNat = id.toNat / 2 ^ (8 * k) % 256 := by
  simp [idByte, Nat.shiftRight_eq_div_pow]

theorem natOfBytes_idBytes_two (id : Word) (h : id.toNat < 2 ^ 16) :
    natOfBytes (idBytes 2 id) = id.toNat := by
  simp [idBytes, List.range_succ, natOfBytes, toNat_idByte]
  omega

theorem natOfBytes_idBytes_four (id : Word) : natOfBytes (idBytes 4 id) = id.toNat := by
  have := id.isLt
  simp [idBytes, List.range_succ, natOfBytes, toNat_idByte]
  omega

/-- R54: the identifier comes back from its bytes when it fits the kind. -/
theorem idOfBytes_idBytes (k : IdKind) (id : Word) (h : id.toNat < 2 ^ (8 * wireSize k)) :
    idOfBytes (idBytes (wireSize k) id) = id := by
  apply BitVec.eq_of_toNat_eq
  rw [toNat_idOfBytes _ (by cases k <;> simp [wireSize])]
  cases k
  · exact natOfBytes_idBytes_two id (by simpa [wireSize] using h)
  · exact natOfBytes_idBytes_four id

/-- R54, the other way: `W` bytes come back from the identifier they spell. -/
theorem idBytes_idOfBytes (k : IdKind) (bs : List Byte) (h : bs.length = wireSize k) :
    idBytes (wireSize k) (idOfBytes bs) = bs := by
  have hn := toNat_idOfBytes bs (by cases k <;> simp_all [wireSize])
  cases k
  · obtain ⟨a, b, rfl⟩ := List.length_eq_two.mp h
    have ha := a.isLt; have hb := b.isLt
    simp only [idBytes, wireSize, List.range_succ, List.range_zero, List.nil_append, List.cons_append,
      List.map_cons, List.map_nil, List.cons.injEq, and_true]
    constructor <;> apply BitVec.eq_of_toNat_eq <;> rw [toNat_idByte, hn] <;> simp [natOfBytes] <;> omega
  · match bs, h with
    | [a, b, c, d], _ =>
      have ha := a.isLt; have hb := b.isLt; have hc := c.isLt; have hd := d.isLt
      simp only [idBytes, wireSize, List.range_succ, List.range_zero, List.nil_append, List.cons_append,
        List.map_cons, List.map_nil, List.cons.injEq, and_true]
      refine ⟨?_, ?_, ?_, ?_⟩ <;> apply BitVec.eq_of_toNat_eq <;> rw [toNat_idByte, hn] <;>
        simp [natOfBytes] <;> omega

/-- The bytes of an identifier of a kind spell a number that fits the kind (R94). -/
theorem idOfBytes_fits (k : IdKind) (bs : List Byte) (h : bs.length = wireSize k) :
    idFits k (idOfBytes bs) = true := by
  have hn := toNat_idOfBytes bs (by cases k <;> simp_all [wireSize])
  have := natOfBytes_lt bs
  rw [idFits, decide_eq_true_iff]
  cases k <;> simp_all [wireSize]

/-! ### Well-formedness -/

@[simp] theorem payloadFits_iff (p : List Byte) : payloadFits p = true ↔ p.length ≤ 15 := by
  unfold payloadFits
  exact decide_eq_true_iff

@[simp] theorem idFits_iff (k : IdKind) (id : Word) :
    idFits k id = true ↔ id.toNat < 2 ^ (8 * wireSize k) := by
  simp only [idFits, decide_eq_true_iff]

/-! ### ConfigByte fields -/

theorem configLen_lt (cfg : Byte) : configLen cfg ≤ 15 := by
  have := (cfg.extractLsb' 0 4).isLt
  simp only [configLen]
  omega

/-- A fact about a ConfigByte field holds for every length up to 15 if it holds for the sixteen. -/
theorem forall_len (P : Nat → Prop) (h : ∀ n : Fin 16, P n) (len : Nat) (hl : len ≤ 15) : P len :=
  h ⟨len, by omega⟩

theorem configLen_configByte (k : IdKind) (ft : FrameType) (len : Nat) (h : len ≤ 15) :
    configLen (configByte k ft len) = len :=
  forall_len (fun n => configLen (configByte k ft n) = n) (by cases k <;> cases ft <;> decide) len h

theorem configFtype_configByte (k : IdKind) (ft : FrameType) (len : Nat) (h : len ≤ 15) :
    configFtype (configByte k ft len) = ft :=
  forall_len (fun n => configFtype (configByte k ft n) = ft) (by cases k <;> cases ft <;> decide) len h

theorem emittedForm_configByte (k : IdKind) (ft : FrameType) (len : Nat) (h : len ≤ 15)
    (hr : ft = .remote → len = 0) : emittedForm (configByte k ft len) = some (k, ft) := by
  cases ft
  · exact forall_len (fun n => emittedForm (configByte k .data n) = some (k, .data))
      (by cases k <;> decide) len h
  · rw [hr rfl]; cases k <;> decide

/-- The ConfigByte as a number (R73): 192, and 32 for Extended, 16 for Remote, and the length. -/
theorem toNat_configByte (k : IdKind) (ft : FrameType) (len : Nat) (h : len ≤ 15) :
    (configByte k ft len).toNat = 192 + (extBits k).toNat + (remoteBits ft).toNat + len :=
  forall_len (fun n => (configByte k ft n).toNat = 192 + (extBits k).toNat + (remoteBits ft).toNat + n)
    (by cases k <;> cases ft <;> decide) len h

/-- What follows the ConfigByte, taken apart into the fields of a frame and what is behind it. -/
theorem body_fields (w len : Nat) (body : List Byte) (h : w + len + 1 ≤ body.length) :
    body = body.take w ++ (body.drop w).take len ++ [body.getD (w + len) 0#8]
      ++ body.drop (w + len + 1) := by
  have h1 : body.drop (w + len) = body.getD (w + len) 0#8 :: body.drop (w + len + 1) := by
    rw [List.drop_eq_getElem_cons (by omega)]
    simp [List.getD, List.getElem?_eq_getElem (show w + len < body.length by omega)]
  conv_lhs => rw [← List.take_append_drop w body, ← List.take_append_drop len (body.drop w),
    List.drop_drop, h1]
  simp

theorem configLen_rxConfigByte (x : BitVec 3) (ft : FrameType) (len : Nat) (h : len ≤ 15) :
    configLen (rxConfigByte x ft len) = len :=
  forall_len (fun n => configLen (rxConfigByte x ft n) = n) (by revert x; cases ft <;> decide) len h

theorem configFtype_rxConfigByte (x : BitVec 3) (ft : FrameType) (len : Nat) (h : len ≤ 15) :
    configFtype (rxConfigByte x ft len) = ft :=
  forall_len (fun n => configFtype (rxConfigByte x ft n) = ft) (by revert x; cases ft <;> decide) len h

theorem configIgnored_rxConfigByte (x : BitVec 3) (ft : FrameType) (len : Nat) (h : len ≤ 15) :
    configIgnored (rxConfigByte x ft len) = x :=
  forall_len (fun n => configIgnored (rxConfigByte x ft n) = x) (by revert x; cases ft <;> decide) len h

/-- A received ConfigByte is the bits ignored and those taken (R59, R60). -/
theorem rxConfigByte_fields (cfg : Byte) :
    rxConfigByte (configIgnored cfg) (configFtype cfg) (configLen cfg) = cfg := by
  revert cfg; decide

/-- A ConfigByte of an emitted row is the one R73 makes. -/
theorem configByte_of_emittedForm (cfg : Byte) (k : IdKind) (ft : FrameType)
    (h : emittedForm cfg = some (k, ft)) :
    configByte k ft (configLen cfg) = cfg ∧ (ft = .remote → configLen cfg = 0) := by
  revert h; revert cfg; cases k <;> cases ft <;> decide

/-! ### The body of a frame -/

theorem splitBody_frame (ids p : List Byte) :
    splitBody ids.length p.length (ids ++ p ++ [Config.endMarker]) = .ok (idOfBytes ids, p) := by
  simp [splitBody, List.getD]
  omega

/-- What a split body is: the identifier bytes, the payload and the end marker. -/
theorem splitBody_ok {w len : Nat} {body : List Byte} {id : Word} {p : List Byte}
    (h : splitBody w len body = .ok (id, p)) :
    ∃ ids, body = ids ++ p ++ [Config.endMarker] ∧ ids.length = w ∧ p.length = len ∧
      idOfBytes ids = id := by
  unfold splitBody at h
  split_ifs at h with h1 h2 h3
  simp only [Except.ok.injEq, Prod.mk.injEq] at h
  obtain ⟨rfl, rfl⟩ := h
  have hl : body.length = w + len + 1 := by omega
  simp only [ne_eq, not_not] at h3
  refine ⟨body.take w, ?_, by simp; omega, by simp; omega, rfl⟩
  have h4 : body.drop (w + len) = [Config.endMarker] := by
    rw [List.drop_eq_getElem_cons (by omega), List.drop_eq_nil_of_le (by omega)]
    rw [List.getD_eq_getElem _ _ (by omega)] at h3
    rw [h3]
  rw [← h4, ← List.drop_drop, List.append_assoc, List.take_append_drop, List.take_append_drop]

/-- A body built from an identifier that fits its kind splits into that identifier. -/
theorem splitBody_idBytes (k : IdKind) (id : Word) (p : List Byte)
    (h : id.toNat < 2 ^ (8 * wireSize k)) :
    splitBody (wireSize k) p.length (idBytes (wireSize k) id ++ p ++ [Config.endMarker])
      = .ok (id, p) := by
  have := splitBody_frame (idBytes (wireSize k) id) p
  rwa [length_idBytes, idOfBytes_idBytes k id h] at this

/-! ### Bursts and received frames -/

/-- What decodes from a burst: the frame ENCODE makes of some valid operands. -/
theorem decodeBurst_ok {bytes : List Byte} {i : Instr} (h : decodeBurst bytes = .ok i) :
    ∃ k ft id p, i = emittedInstr k ft id p ∧ p.length ≤ 15 ∧ (ft = .remote → p = []) ∧
      id.toNat < 2 ^ (8 * wireSize k) ∧
      bytes = wireFrame (configByte k ft p.length) (idBytes (wireSize k) id) p := by
  unfold decodeBurst at h
  split at h
  · cases h
  split_ifs at h with hm
  split at h
  · cases h
  split at h
  · cases h
  rename_i k ft he
  split at h
  · cases h
  rename_i id p hs
  obtain ⟨ids, rfl, hi, hl, rfl⟩ := splitBody_ok hs
  obtain ⟨hc, hr⟩ := configByte_of_emittedForm _ k ft he
  simp only [Except.ok.injEq] at h
  simp only [ne_eq, not_not] at hm
  refine ⟨k, ft, _, p, h.symm, hl ▸ configLen_lt _, fun hf => ?_, ?_, ?_⟩
  · simpa [← hl] using hr hf
  · simpa using idOfBytes_fits k ids hi
  · rw [idBytes_idOfBytes k ids hi, hl, hc, hm]; rfl

/-- The frame ENCODE makes of valid operands decodes to the form with those fields. -/
theorem decodeBurst_frame (k : IdKind) (ft : FrameType) (id : Word) (p : List Byte)
    (h : id.toNat < 2 ^ (8 * wireSize k)) (hp : p.length ≤ 15) (hr : ft = .remote → p = []) :
    decodeBurst (wireFrame (configByte k ft p.length) (idBytes (wireSize k) id) p)
      = .ok (emittedInstr k ft id p) := by
  have hr' : ft = .remote → p.length = 0 := by simpa using hr
  simp only [decodeBurst, wireFrame, ne_eq, not_true, if_false, emittedForm_configByte k ft _ hp hr',
    configLen_configByte k ft _ hp, splitBody_idBytes k id p h]

/-- The emitted form with valid fields is well-formed, stands in a burst, and encodes to the frame. -/
theorem emittedInstr_spec (k k' : IdKind) (ft : FrameType) (id : Word) (p : List Byte)
    (hp : p.length ≤ 15) (hr : ft = .remote → p = []) (hid : id.toNat < 2 ^ (8 * wireSize k)) :
    wellFormed k' (emittedInstr k ft id p) = true ∧ (emittedInstr k ft id p).port k' = .txBurst ∧
      encode k' (emittedInstr k ft id p)
        = wireFrame (configByte k ft p.length) (idBytes (wireSize k) id) p := by
  cases k <;> cases ft
  · have : (id.setWidth 16).setWidth 32 = id := by
      apply BitVec.eq_of_toNat_eq; simp [wireSize] at hid ⊢; omega
    simp [emittedInstr, wellFormed, hp, Instr.port, encode, this, wireSize]
  · have : (id.setWidth 16).setWidth 32 = id := by
      apply BitVec.eq_of_toNat_eq; simp [wireSize] at hid ⊢; omega
    simp [emittedInstr, wellFormed, Instr.port, encode, this, wireSize, hr]
  · simp [emittedInstr, wellFormed, hp, Instr.port, encode, wireSize]
  · simp [emittedInstr, wellFormed, Instr.port, encode, wireSize, hr]

/-- What decodes from received bytes: a whole frame and its class. -/
theorem decodeReceived_ok {k : IdKind} {bytes : List Byte} {i : Instr}
    (h : decodeReceived k bytes = .ok i) :
    ∃ cfg ids p, i = receivedInstr cfg (idOfBytes ids) p ∧ p.length = configLen cfg ∧
      ids.length = wireSize k ∧ bytes = wireFrame cfg ids p := by
  unfold decodeReceived at h
  split at h
  · cases h
  split_ifs at h with hm
  split at h
  · cases h
  split at h
  · cases h
  rename_i id p hs
  obtain ⟨ids, rfl, hi, hl, rfl⟩ := splitBody_ok hs
  simp only [Except.ok.injEq] at h
  simp only [ne_eq, not_not] at hm
  exact ⟨_, ids, p, h.symm, hl, hi, by rw [hm]; rfl⟩

/-- A whole frame decodes to its class. -/
theorem decodeReceived_frame (k : IdKind) (cfg : Byte) (ids p : List Byte)
    (hl : p.length = configLen cfg) (hi : ids.length = wireSize k) :
    decodeReceived k (wireFrame cfg ids p) = .ok (receivedInstr cfg (idOfBytes ids) p) := by
  have := splitBody_frame ids p
  rw [hi, hl] at this
  simp only [decodeReceived, wireFrame, ne_eq, not_true, if_false, this]

/-- The class of a whole frame is well-formed, stands in the RX stream, and encodes to the frame. -/
theorem receivedInstr_spec (k : IdKind) (cfg : Byte) (ids p : List Byte)
    (hl : p.length = configLen cfg) (hi : ids.length = wireSize k) :
    wellFormed k (receivedInstr cfg (idOfBytes ids) p) = true ∧
      (receivedInstr cfg (idOfBytes ids) p).port k = .rxStream k ∧
      encode k (receivedInstr cfg (idOfBytes ids) p) = wireFrame cfg ids p := by
  have h1 := idOfBytes_fits k ids hi
  have h2 := idBytes_idOfBytes k ids hi
  have h3 := rxConfigByte_fields cfg
  have h4 := configLen_lt cfg
  cases hf : configFtype cfg <;> rw [hf] at h3 <;>
    simp_all [receivedInstr, wellFormed, Instr.port, encode]

end Sys2Proof
end

