-- ==== Sys2Proof/Laws/Decoder.lean ====
section
/-! SUPPORT. The decoder's walk: what one byte does, what feeding bytes leaves alone, how many it
consumes, and the walk over the identifier, the payload and the end of a frame. -/

namespace Sys2Proof.Machine

/-- `t` differs from `s` in nothing outside the decoder: neither in control registers, operands, the
encoder's state, the transport's close strobes, nor the events. -/
structure State.SameOutsideDecoder (s t : State) : Prop where
  life : t.life = s.life
  idKind : t.idKind = s.idKind
  txFtype : t.txFtype = s.txFtype
  txId : t.txId = s.txId
  txPayload : t.txPayload = s.txPayload
  txStatus : t.txStatus = s.txStatus
  txStatusValid : t.txStatusValid = s.txStatusValid
  ctlStatus : t.ctlStatus = s.ctlStatus
  ctlStatusValid : t.ctlStatusValid = s.ctlStatusValid
  txPending : t.txPending = s.txPending
  txBursts : t.txBursts = s.txBursts
  closeStrobes : t.closeStrobes = s.closeStrobes
  events : t.events = s.events

theorem State.SameOutsideDecoder.refl (s : State) : s.SameOutsideDecoder s := by
  constructor <;> rfl

theorem State.SameOutsideDecoder.trans {s t u : State} (h : s.SameOutsideDecoder t)
    (h' : t.SameOutsideDecoder u) : s.SameOutsideDecoder u := by
  cases h; cases h'; constructor <;> simp_all

variable (s : State)

/-! ### One byte -/

/-- R102: what one byte does in each phase, the byte already consumed. -/
theorem State.transition_cases (b : Byte) :
    (s.rxPhase = .idle ∧ s.transition b = s) ∨
    (s.rxPhase = .start ∧ b = Config.startMarker ∧ s.transition b = s.enterPhase .config 1) ∨
    (s.rxPhase = .start ∧ b ≠ Config.startMarker ∧ s.transition b = s.completeRx .badStartByte) ∨
    (s.rxPhase = .config ∧
      s.transition b = (s.latch b 0#32 []).enterPhase .ident (wireSize s.idKind)) ∨
    (s.rxPhase = .ident ∧ s.rxCnt ≤ 1 ∧ configLen s.rxCfg = 0 ∧
      s.transition b = (s.gatherIdent b).enterPhase .endMark 1) ∨
    (s.rxPhase = .ident ∧ s.rxCnt ≤ 1 ∧ configLen s.rxCfg ≠ 0 ∧
      s.transition b = (s.gatherIdent b).enterPhase .payload (configLen s.rxCfg)) ∨
    (s.rxPhase = .ident ∧ 1 < s.rxCnt ∧
      s.transition b = (s.gatherIdent b).enterPhase .ident (s.rxCnt - 1)) ∨
    (s.rxPhase = .payload ∧ s.rxCnt ≤ 1 ∧
      s.transition b = (s.gatherPayload b).enterPhase .endMark 1) ∨
    (s.rxPhase = .payload ∧ 1 < s.rxCnt ∧
      s.transition b = (s.gatherPayload b).enterPhase .payload (s.rxCnt - 1)) ∨
    (s.rxPhase = .endMark ∧ b = Config.endMarker ∧ s.transition b = s.acceptFrame) ∨
    (s.rxPhase = .endMark ∧ b ≠ Config.endMarker ∧ s.transition b = s.completeRx .badEndByte) := by
  unfold State.transition State.afterIdent
  have hg : (s.gatherIdent b).rxCfg = s.rxCfg := rfl
  cases hp : s.rxPhase <;> simp only [hg, State.raise_rxc] <;> (try split_ifs) <;> simp_all

theorem State.transition_sameOutside (b : Byte) : s.SameOutsideDecoder (s.transition b) := by
  rcases s.transition_cases b with h | h | h | h | h | h | h | h | h | h | h <;>
    (obtain ⟨_, h⟩ := h; try obtain ⟨_, h⟩ := h) <;> (try obtain ⟨_, h⟩ := h) <;>
    rw [h] <;> constructor <;> rfl

theorem State.transition_stream (b : Byte) :
    (s.transition b).rxStream = s.rxStream ∧ (s.transition b).rxCursor = s.rxCursor := by
  rcases s.transition_cases b with h | h | h | h | h | h | h | h | h | h | h <;>
    (obtain ⟨_, h⟩ := h; try obtain ⟨_, h⟩ := h) <;> (try obtain ⟨_, h⟩ := h) <;>
    rw [h] <;> constructor <;> rfl

theorem State.acceptByte_sameOutside (b : Byte) : s.SameOutsideDecoder (s.acceptByte b) :=
  State.SameOutsideDecoder.trans (t := s.consume 1) (by constructor <;> rfl)
    ((s.consume 1).transition_sameOutside b)

@[simp] theorem State.acceptByte_rxStream (b : Byte) :
    (s.acceptByte b).rxStream = s.rxStream.drop 1 :=
  ((s.consume 1).transition_stream b).1

@[simp] theorem State.acceptByte_rxCursor (b : Byte) :
    (s.acceptByte b).rxCursor = s.rxCursor + 1 :=
  ((s.consume 1).transition_stream b).2

/-! ### One byte in each phase (R102) -/

theorem State.acceptByte_start (hs : s.rxPhase = .start) :
    s.acceptByte Config.startMarker = (s.consume 1).enterPhase .config 1 := by
  simp [State.acceptByte, State.transition, hs]

theorem State.acceptByte_badStart (b : Byte) (hs : s.rxPhase = .start) (hb : b ≠ Config.startMarker) :
    s.acceptByte b = (s.consume 1).completeRx .badStartByte := by
  simp [State.acceptByte, State.transition, hs, hb]

theorem State.acceptByte_config (b : Byte) (hs : s.rxPhase = .config) :
    s.acceptByte b = ((s.consume 1).latch b 0#32 []).enterPhase .ident (wireSize s.idKind) := by
  simp [State.acceptByte, State.transition, hs]

theorem State.acceptByte_identLast (b : Byte) (hs : s.rxPhase = .ident) (hn : s.rxCnt ≤ 1) :
    s.acceptByte b = ((s.consume 1).gatherIdent b).afterIdent := by
  have h : (s.consume 1).rxCnt ≤ 1 := hn
  simp only [State.acceptByte, State.transition, State.consume_rxPhase, hs, if_pos h]

theorem State.acceptByte_ident (b : Byte) (hs : s.rxPhase = .ident) (hn : 1 < s.rxCnt) :
    s.acceptByte b = ((s.consume 1).gatherIdent b).enterPhase .ident (s.rxCnt - 1) := by
  have h : ¬(s.consume 1).rxCnt ≤ 1 := Nat.not_le.mpr hn
  simp only [State.acceptByte, State.transition, State.consume_rxPhase, hs, if_neg h]
  rfl

theorem State.acceptByte_payloadLast (b : Byte) (hs : s.rxPhase = .payload) (hn : s.rxCnt ≤ 1) :
    s.acceptByte b = ((s.consume 1).gatherPayload b).enterPhase .endMark 1 := by
  have h : (s.consume 1).rxCnt ≤ 1 := hn
  simp only [State.acceptByte, State.transition, State.consume_rxPhase, hs, if_pos h]

theorem State.acceptByte_payload (b : Byte) (hs : s.rxPhase = .payload) (hn : 1 < s.rxCnt) :
    s.acceptByte b = ((s.consume 1).gatherPayload b).enterPhase .payload (s.rxCnt - 1) := by
  have h : ¬(s.consume 1).rxCnt ≤ 1 := Nat.not_le.mpr hn
  simp only [State.acceptByte, State.transition, State.consume_rxPhase, hs, if_neg h]
  rfl

theorem State.acceptByte_end (b : Byte) (hs : s.rxPhase = .endMark) :
    s.acceptByte b = if b = Config.endMarker then (s.consume 1).acceptFrame
      else (s.consume 1).completeRx .badEndByte := by
  simp [State.acceptByte, State.transition, hs]

/-! ### Feeding bytes -/

/-- R37: once RECEIVE has completed no byte is taken. -/
theorem State.feed_idle (bs : List Byte) (h : s.rxPhase = .idle) : State.feed bs s = s := by
  cases bs <;> simp [State.feed, h]

theorem State.feed_cons (b : Byte) (bs : List Byte) (h : s.rxPhase ≠ .idle) :
    State.feed (b :: bs) s = State.feed bs (s.acceptByte b) := by
  simp [State.feed, h]

theorem State.feed_append (l r : List Byte) : State.feed (l ++ r) s = State.feed r (State.feed l s) := by
  induction l generalizing s with
  | nil => rfl
  | cons b l ih =>
    by_cases h : s.rxPhase = .idle
    · rw [State.feed_idle s _ h, State.feed_idle s _ h, State.feed_idle s _ h]
    · rw [List.cons_append, s.feed_cons b _ h, s.feed_cons b _ h, ih]

theorem State.feed_sameOutside (bs : List Byte) : s.SameOutsideDecoder (State.feed bs s) := by
  induction bs generalizing s with
  | nil => exact .refl s
  | cons b bs ih =>
    by_cases h : s.rxPhase = .idle
    · rw [State.feed_idle s _ h]; exact .refl s
    · rw [s.feed_cons b bs h]; exact (s.acceptByte_sameOutside b).trans (ih _)

/-- R38: what feeding consumes: `m` bytes, no more than were fed, all of them unless RECEIVE
completed, none when none is in flight. -/
theorem State.feed_consumes (bs : List Byte) : ∃ m, m ≤ bs.length ∧
    (State.feed bs s).rxStream = s.rxStream.drop m ∧ (State.feed bs s).rxCursor = s.rxCursor + m ∧
    (s.rxPhase = .idle → m = 0) ∧ ((State.feed bs s).rxPhase ≠ .idle → m = bs.length) := by
  induction bs generalizing s with
  | nil => exact ⟨0, by simp [State.feed]⟩
  | cons b bs ih =>
    by_cases h : s.rxPhase = .idle
    · exact ⟨0, by simp [State.feed_idle s _ h, h]⟩
    · obtain ⟨m, hm, hs, hc, -, hl⟩ := ih (s.acceptByte b)
      refine ⟨m + 1, by simpa using hm, ?_, ?_, fun h' => absurd h' h, ?_⟩
      · rw [s.feed_cons b bs h, hs, s.acceptByte_rxStream, List.drop_drop, Nat.add_comm]
      · rw [s.feed_cons b bs h, hc, s.acceptByte_rxCursor]; omega
      · rw [s.feed_cons b bs h]; intro h'; simp [hl h']

/-- RECEIVE is still in flight after a byte only if it was before, and then its results still hold no
value they did not hold. -/
theorem State.transition_inFlight (b : Byte) (h : (s.transition b).rxPhase ≠ .idle) :
    (s.transition b).rxStatusValid = s.rxStatusValid ∧
      (s.transition b).rxFrameValid = s.rxFrameValid := by
  rcases s.transition_cases b with h' | h' | h' | h' | h' | h' | h' | h' | h' | h' | h' <;>
    (obtain ⟨_, h'⟩ := h'; try obtain ⟨_, h'⟩ := h') <;> (try obtain ⟨_, h'⟩ := h') <;>
    rw [h'] at h ⊢ <;> first | exact ⟨rfl, rfl⟩ | exact absurd rfl h

/-- As long as RECEIVE is in flight its validity windows do not change. -/
theorem State.feed_inFlight (bs : List Byte) (h : (State.feed bs s).rxPhase ≠ .idle) :
    (State.feed bs s).rxStatusValid = s.rxStatusValid ∧
      (State.feed bs s).rxFrameValid = s.rxFrameValid := by
  induction bs generalizing s with
  | nil => exact ⟨rfl, rfl⟩
  | cons b bs ih =>
    by_cases hp : s.rxPhase = .idle
    · rw [s.feed_idle _ hp]; exact ⟨rfl, rfl⟩
    · rw [s.feed_cons b bs hp] at h ⊢
      have hb : (s.acceptByte b).rxPhase ≠ .idle := fun hi => h (by rw [State.feed_idle _ _ hi]; exact hi)
      have h1 := (s.consume 1).transition_inFlight b hb
      exact ⟨(ih _ h).1.trans h1.1, (ih _ h).2.trans h1.2⟩

theorem State.readReturns_sameOutside (n : Nat) : s.SameOutsideDecoder (s.readReturns n) :=
  s.feed_sameOutside _

theorem State.drain_sameOutside : s.SameOutsideDecoder s.drain :=
  s.feed_sameOutside _

/-! ### The walk over a frame -/

theorem State.consume_consume (m n : Nat) : (s.consume m).consume n = s.consume (m + n) := by
  ext1 <;> simp [List.drop_drop, Nat.add_assoc]

/-- Where the decoder goes after the identifier does not depend on the phase it comes from. -/
theorem State.afterIdent_enterPhase (ph : Phase) (n : Nat) :
    (s.enterPhase ph n).afterIdent = s.afterIdent := by
  unfold State.afterIdent
  by_cases h : configLen s.rxCfg = 0
  · have h' : configLen (s.enterPhase ph n).rxCfg = 0 := h
    rw [if_pos h, if_pos h']; rfl
  · have h' : ¬configLen (s.enterPhase ph n).rxCfg = 0 := h
    rw [if_neg h, if_neg h']; rfl

/-- The state with the fields of a frame gathered, before its end marker. -/
def State.atEnd (cfg : Byte) (ids p : List Byte) (s : State) : State :=
  (s.latch cfg (idOfBytes ids) p).enterPhase .endMark 1

/-- R94: `n` identifier bytes go into the accumulator above those gathered before. -/
theorem State.feed_ident (bs : List Byte) (hp : s.rxPhase = .ident) (hn : s.rxCnt = bs.length)
    (h1 : bs ≠ []) (hw : bs.length ≤ wireSize s.idKind) :
    State.feed bs s =
      ((s.consume bs.length).latch s.rxCfg
        (s.rxAcc ||| idOfBytes bs <<< (8 * (wireSize s.idKind - bs.length))) s.rxGathered).afterIdent := by
  induction bs generalizing s with
  | nil => exact absurd rfl h1
  | cons b bs ih =>
    rw [s.feed_cons b bs (by simp [hp])]
    by_cases hb : bs = []
    · subst hb
      rw [s.acceptByte_identLast b hp (by simp [hn])]
      simp [State.feed, State.gatherIdent, idOfBytes, hn]
    · have hlen : 0 < bs.length := List.length_pos_iff.mpr hb
      have hlt : 1 < s.rxCnt := by simp at hn; omega
      have hw' : bs.length + 1 ≤ wireSize s.idKind := by simpa using hw
      rw [s.acceptByte_ident b hp hlt, ih _ rfl (by simp [hn]) hb (by simp [State.gatherIdent]; omega)]
      have hsh : 8 * (wireSize s.idKind - bs.length) = 8 + 8 * (wireSize s.idKind - (bs.length + 1)) := by
        omega
      rw [← State.afterIdent_enterPhase ((s.consume (b :: bs).length).latch _ _ _) .ident bs.length]
      congr 1
      ext1 <;> simp [State.gatherIdent, hn, idOfBytes, hsh, BitVec.shiftLeft_add,
        BitVec.shiftLeft_or_distrib, BitVec.or_assoc, Nat.add_comm, Nat.add_assoc]

/-- An accepted frame is on the decoder's side alone, and returns it to `IDLE` (R101). -/
theorem State.acceptFrame_sameOutside (n : Nat) (cfg : Byte) (ids p : List Byte) :
    s.SameOutsideDecoder ((s.consume n).atEnd cfg ids p).acceptFrame := by
  constructor <;> simp [State.acceptFrame, State.atEnd]

@[simp] theorem State.acceptFrame_rxPhase : s.acceptFrame.rxPhase = .idle := rfl

/-- R95: the payload bytes are gathered in arrival order, up to `END`. -/
theorem State.feed_payload (bs : List Byte) (hp : s.rxPhase = .payload) (hn : s.rxCnt = bs.length)
    (h1 : bs ≠ []) :
    State.feed bs s =
      ((s.consume bs.length).latch s.rxCfg s.rxAcc (s.rxGathered ++ bs)).enterPhase .endMark 1 := by
  induction bs generalizing s with
  | nil => exact absurd rfl h1
  | cons b bs ih =>
    rw [s.feed_cons b bs (by simp [hp])]
    by_cases hb : bs = []
    · subst hb
      rw [s.acceptByte_payloadLast b hp (by simp [hn])]
      rfl
    · have hlen : 0 < bs.length := List.length_pos_iff.mpr hb
      rw [s.acceptByte_payload b hp (by simp at hn; omega), ih _ rfl (by simp [hn]) hb]
      ext1 <;> simp [State.gatherPayload, Nat.add_comm, Nat.add_assoc]

/-- R94, R95: the walk from just before the ConfigByte to just before the end marker. -/
theorem State.feed_fields (cfg : Byte) (ids p : List Byte) (hs : s.rxPhase = .config)
    (hi : ids.length = wireSize s.idKind) (hl : p.length = configLen cfg) :
    State.feed (cfg :: (ids ++ p)) s
      = (s.consume (1 + wireSize s.idKind + p.length)).atEnd cfg ids p := by
  have hpos : 0 < ids.length := by rw [hi]; cases s.idKind <;> decide
  rw [s.feed_cons _ _ (by simp [hs]), State.feed_append, s.acceptByte_config cfg hs,
    State.feed_ident _ ids rfl hi.symm (List.length_pos_iff.mp hpos) (by simp [hi])]
  have h1 : State.feed p ((s.consume (1 + wireSize s.idKind)).latch cfg (idOfBytes ids) []).afterIdent
      = (s.consume (1 + wireSize s.idKind + p.length)).atEnd cfg ids p := by
    by_cases hp : p = []
    · subst hp
      simp only [List.length_nil] at hl
      simp [State.afterIdent, ← hl, State.feed, State.atEnd]
    · have hne : configLen cfg ≠ 0 := by rw [← hl]; simpa using hp
      have ha : ((s.consume (1 + wireSize s.idKind)).latch cfg (idOfBytes ids) []).afterIdent
          = ((s.consume (1 + wireSize s.idKind)).latch cfg (idOfBytes ids) []).enterPhase .payload
              (configLen cfg) := if_neg hne
      rw [ha, State.feed_payload _ p rfl hl.symm hp]
      ext1 <;> simp [State.atEnd, Nat.add_assoc]
  rw [← h1, ← State.afterIdent_enterPhase ((s.consume _).latch _ _ _) .ident (wireSize s.idKind)]
  congr 2
  ext1 <;> simp [hi, Nat.add_assoc, Nat.add_comm 1]

/-- R91: the walk from the start marker over a frame whose end byte is `e`. -/
theorem State.feed_frame (cfg e : Byte) (ids p : List Byte) (hs : s.rxPhase = .start)
    (hi : ids.length = wireSize s.idKind) (hl : p.length = configLen cfg) :
    State.feed (Config.startMarker :: cfg :: (ids ++ p ++ [e])) s =
      if e = Config.endMarker then
        ((s.consume (3 + wireSize s.idKind + p.length)).atEnd cfg ids p).acceptFrame
      else ((s.consume (3 + wireSize s.idKind + p.length)).atEnd cfg ids p).completeRx .badEndByte := by
  have hcons : Config.startMarker :: cfg :: (ids ++ p ++ [e])
      = Config.startMarker :: ((cfg :: (ids ++ p)) ++ [e]) := by simp
  rw [hcons, s.feed_cons _ _ (by simp [hs]), State.feed_append, s.acceptByte_start hs,
    State.feed_fields ((s.consume 1).enterPhase .config 1) cfg ids p rfl hi hl, State.feed_cons _ e [] (by simp [State.atEnd]),
    State.acceptByte_end _ e rfl]
  have h : (((s.consume 1).enterPhase .config 1).consume (1 + wireSize s.idKind + p.length)).atEnd
      cfg ids p |>.consume 1 |> (· = (s.consume (3 + wireSize s.idKind + p.length)).atEnd cfg ids p) := by
    ext1 <;> simp [State.atEnd] <;> omega
  simp only [State.feed]
  rw [State.enterPhase_idKind, State.consume_idKind, h]

/-- Bytes that are not yet a whole frame leave RECEIVE in flight (R98). -/
theorem State.feed_partial (cfg : Byte) (body : List Byte) (hs : s.rxPhase = .start)
    (hl : body.length < wireSize s.idKind + configLen cfg + 1) :
    (State.feed (Config.startMarker :: cfg :: body) s).rxPhase ≠ .idle := by
  intro hi
  let missing := List.replicate (wireSize s.idKind + configLen cfg - body.length) 0#8
  have h1 := s.feed_frame cfg Config.endMarker ((body ++ missing).take (wireSize s.idKind))
    ((body ++ missing).drop (wireSize s.idKind)) hs (by simp [missing]; omega) (by simp [missing]; omega)
  rw [List.take_append_drop, if_pos rfl] at h1
  have h2 : Config.startMarker :: cfg :: (body ++ missing ++ [Config.endMarker])
      = (Config.startMarker :: cfg :: body) ++ (missing ++ [Config.endMarker]) := by simp
  rw [h2, State.feed_append, State.feed_idle _ _ hi] at h1
  obtain ⟨m, hm, -, hc, -⟩ := s.feed_consumes (Config.startMarker :: cfg :: body)
  rw [h1] at hc
  simp [State.acceptFrame, State.atEnd, missing] at hc hm
  omega

end Sys2Proof.Machine
end

