-- ==== Sys2Proof/Laws/Ops.lean ====
section
/-! SUPPORT. What each shared operation of the encoder and the life cycle can do, said once: the
bursts a failed write leaves, an aborted RECEIVE, ENCODE's two results, a SEND from its operands, the
write of a frame form. -/

namespace Sys2Proof.Machine

variable (s : State)

/-! ### `deliver` and reset (R35, R140) -/

/-- The bursts a partial delivery leaves: none for an empty prefix, one otherwise. -/
theorem State.deliver_txBursts (n : Nat) (f : List Byte) :
    (s.deliver n f).txBursts = s.txBursts ++ (if f.take n = [] then [] else [f.take n]) := by
  unfold State.deliver
  by_cases h : f.take n = []
  · simp [h]
  · rw [if_neg h, if_neg (by simpa using h)]; rfl

/-- `deliver` changes the TX stream alone. -/
theorem State.deliver_eq (n : Nat) (f : List Byte) :
    s.deliver n f = { s with txBursts := s.txBursts ++ (if f.take n = [] then [] else [f.take n]) } := by
  unfold State.deliver
  by_cases h : f.take n = []
  · simp [h]
  · rw [if_neg h, if_neg (by simpa using h)]; rfl

/-- No host register holds a value after the reset input. -/
theorem State.assertReset_holdsValue (n : Nat) (r : HostReg) :
    (s.assertReset n).holdsValue r = false := by
  cases r <;> rfl

/-! ### `abortReceive` (R39, R111) -/

theorem State.abortReceive_cases :
    (s.rxPhase = .idle ∧ s.abortReceive = s) ∨
    (s.rxPhase ≠ .idle ∧ s.abortReceive = s.completeRx .transportError) := by
  by_cases h : s.rxPhase = .idle <;> simp [State.abortReceive, h]

/-! ### ENCODE (R71) -/

theorem encodeWire_ok {ft : FrameType} {id : Word} {p f : List Byte} {k : IdKind}
    (h : encodeWire ft id p k = .ok f) :
    encodeError ft id p.length k = none ∧
      f = wireFrame (configByte k ft p.length) (idBytes (wireSize k) id) p := by
  unfold encodeWire at h
  split at h
  · cases h
  · exact ⟨‹_›, by simpa using h.symm⟩

theorem encodeWire_error {ft : FrameType} {id : Word} {p : List Byte} {k : IdKind} {e : Status} :
    encodeWire ft id p k = .error e ↔ encodeError ft id p.length k = some e := by
  unfold encodeWire
  split <;> simp_all

theorem encodeWire_of_none {ft : FrameType} {id : Word} {p : List Byte} {k : IdKind}
    (h : encodeError ft id p.length k = none) :
    encodeWire ft id p k = .ok (wireFrame (configByte k ft p.length) (idBytes (wireSize k) id) p) := by
  simp [encodeWire, h]

/-- `ByteSizeHelper` against a wire size is the range of the identifier (R72). -/
theorem wireSize_lt_byteSizeHelper (k : IdKind) (id : Word) :
    wireSize k < byteSizeHelper id ↔ k = .standard ∧ 0xFFFF < id.toNat := by
  have := id.isLt
  unfold byteSizeHelper
  cases k <;> simp only [wireSize, reduceCtorEq, false_and, iff_false, true_and] <;> split_ifs <;> omega

/-- What passes the three checks (R72). -/
theorem encodeError_none (ft : FrameType) (id : Word) (n : Nat) (k : IdKind) :
    encodeError ft id n k = none ↔
      (ft = .remote → n = 0) ∧ (k = .standard → id.toNat ≤ 0xFFFF) ∧ n ≤ 15 := by
  have := wireSize_lt_byteSizeHelper k id
  unfold encodeError
  split_ifs <;> simp_all [Config.maxPayload]

/-! ### SEND and the frame forms -/

/-- What SEND does from its operands (R77): it completes with an encode error, or with
`TransportError`, or waits in the write of the frame. -/
theorem State.submit_cases :
    (∃ e, encodeWire s.txFtype s.txId s.txPayload s.idKind = .error e ∧ s.submit = s.completeTx e) ∨
    (∃ f, encodeWire s.txFtype s.txId s.txPayload s.idKind = .ok f ∧ s.life = .closed ∧
      s.submit = s.completeTx .transportError) ∨
    (∃ f, encodeWire s.txFtype s.txId s.txPayload s.idKind = .ok f ∧ s.life ≠ .closed ∧
      s.submit = s.holdBurst f) := by
  unfold State.submit
  split
  · exact .inl ⟨_, ‹_›, rfl⟩
  · split_ifs with h
    · exact .inr (.inl ⟨_, ‹_›, h, rfl⟩)
    · exact .inr (.inr ⟨_, ‹_›, h, rfl⟩)

/-- Every way a frame form can go (R33): written, or not this SEND's frame. -/
theorem emitFrame_cases (k : IdKind) (i : Instr) :
    (wellFormed k i = true ∧ s.idKind = k ∧ s.txPending = some (encode k i) ∧
      emitFrame k i s = .next ((s.appendTx (encode k i)).completeTx .ok)) ∨
    (¬(wellFormed k i = true ∧ s.idKind = k ∧ s.txPending = some (encode k i)) ∧
      emitFrame k i s = .refused .frameNotInFlight) := by
  unfold emitFrame
  split_ifs with h
  · exact .inl ⟨h.1, h.2.1, h.2.2, rfl⟩
  · exact .inr ⟨h, rfl⟩

end Sys2Proof.Machine
end

