-- ==== Sys2Proof/Laws/Invariant.lean ====
section
/-! SUPPORT. The decoder's half of the invariant: what a change on the decoder's side alone has to
show, and that one byte, any bytes, and an abort keep it. -/

namespace Sys2Proof.Machine

/-- The fields of the invariant that speak of the decoder, of a block with an open transport. -/
structure State.DecoderInv (s : State) : Prop where
  start_reads_one : s.rxPhase = .start ∨ s.rxPhase = .config → s.rxCnt = 1
  ident_progress : s.rxPhase = .ident →
    1 ≤ s.rxCnt ∧ s.rxCnt ≤ wireSize s.idKind ∧
      s.rxAcc.toNat < 2 ^ (8 * (wireSize s.idKind - s.rxCnt)) ∧ s.rxGathered = []
  payload_progress : s.rxPhase = .payload →
    1 ≤ s.rxCnt ∧ s.rxGathered.length + s.rxCnt = configLen s.rxCfg ∧ idFits s.idKind s.rxAcc
  end_progress : s.rxPhase = .endMark →
    s.rxCnt = 1 ∧ s.rxGathered.length = configLen s.rxCfg ∧ idFits s.idKind s.rxAcc
  count_bounded : s.rxPhase ≠ .idle → s.rxCnt ≤ 15
  receive_windows : s.rxPhase ≠ .idle → s.rxStatusValid = false ∧ s.rxFrameValid = false
  results_when_ok : s.rxFrameValid = (s.rxStatusValid && decide (s.rxStatus = .ok))
  results_bounded : s.rxFrameValid → s.rxPayload.length ≤ 15 ∧ idFits s.idKind s.rxId
  rx_status_produced : s.rxStatusValid →
    s.rxStatus ≠ .remoteFrameWithPayload ∧ s.rxStatus ≠ .idTooLarge ∧ s.rxStatus ≠ .payloadTooLarge

theorem State.Inv.decoder {s : State} (h : s.Inv) : s.DecoderInv :=
  ⟨h.start_reads_one, h.ident_progress, h.payload_progress, h.end_progress, h.count_bounded,
    h.receive_windows, h.results_when_ok, h.results_bounded, h.rx_status_produced⟩

/-- A change on the decoder's side alone, with the transport open, keeps the invariant if it keeps the
decoder's fields. -/
theorem State.Inv.of_decoder {s t : State} (h : s.Inv) (ho : s.SameOutsideDecoder t)
    (hl : s.life = .opened) (hd : t.DecoderInv) : t.Inv where
  unconfigured_clean hu := by rw [ho.life, hl] at hu; cases hu
  receive_needs_open _ := ho.life.trans hl
  start_reads_one := hd.start_reads_one
  ident_progress := hd.ident_progress
  payload_progress := hd.payload_progress
  end_progress := hd.end_progress
  count_bounded := hd.count_bounded
  receive_windows := hd.receive_windows
  send_window := by rw [ho.txPending, ho.txStatusValid]; exact h.send_window
  pending_frame := by
    rw [ho.txPending, ho.txFtype, ho.txId, ho.txPayload, ho.idKind]; exact h.pending_frame
  results_when_ok := hd.results_when_ok
  results_bounded := hd.results_bounded
  tx_status_produced := by rw [ho.txStatusValid, ho.txStatus]; exact h.tx_status_produced
  rx_status_produced := hd.rx_status_produced
  ctl_status_produced := by rw [ho.ctlStatusValid, ho.ctlStatus]; exact h.ctl_status_produced
  bursts_framed := by rw [ho.txBursts]; exact h.bursts_framed

theorem State.Inv.withEvents {s : State} (h : s.Inv) (es : List Event) : (s.withEvents es).Inv := by
  cases h; constructor <;> assumption

theorem State.Inv.consume {s : State} (h : s.Inv) (n : Nat) : (s.consume n).Inv := by
  cases h; constructor <;> assumption

/-- The accumulator stays within the bytes gathered (R94). -/
theorem State.gatherIdent_bound {s : State} (b : Byte) (h1 : 1 ≤ s.rxCnt) (h2 : s.rxCnt ≤ wireSize s.idKind)
    (h3 : s.rxAcc.toNat < 2 ^ (8 * (wireSize s.idKind - s.rxCnt))) :
    (s.gatherIdent b).rxAcc.toNat < 2 ^ (8 * (wireSize s.idKind - (s.rxCnt - 1))) := by
  have hb := b.isLt
  have he : 8 * (wireSize s.idKind - (s.rxCnt - 1)) = 8 * (wireSize s.idKind - s.rxCnt) + 8 := by omega
  simp only [State.gatherIdent, State.latch_rxAcc, BitVec.toNat_or, BitVec.toNat_shiftLeft,
    BitVec.toNat_setWidth]
  rw [he]
  apply Nat.or_lt_two_pow
  · exact lt_of_lt_of_le h3 (Nat.pow_le_pow_right (by decide) (by omega))
  · rw [Nat.mod_eq_of_lt (by omega : b.toNat < 2 ^ 32), Nat.shiftLeft_eq]
    refine lt_of_le_of_lt (Nat.mod_le _ _) ?_
    rw [Nat.pow_add, Nat.mul_comm]
    exact Nat.mul_lt_mul_of_pos_left hb (by positivity)

/-- RECEIVE completing with an error of its own keeps the decoder's fields. -/
theorem State.completeRx_inv {s : State} (e : Status) (he : e = .badStartByte ∨ e = .badEndByte ∨ e = .transportError) :
    (s.completeRx e).DecoderInv := by
  constructor <;> rcases he with rfl | rfl | rfl <;> simp

/-- One byte keeps the invariant, the byte already consumed. -/
theorem State.Inv.transition {s : State} (h : s.Inv) (b : Byte) : (s.transition b).Inv := by
  by_cases hi : s.rxPhase = .idle
  · have : s.transition b = s := by simp [State.transition, hi]
    rw [this]; exact h
  refine h.of_decoder (s.transition_sameOutside b) (h.receive_needs_open hi) ?_
  have hw : 2 ≤ wireSize s.idKind ∧ wireSize s.idKind ≤ 4 := by cases s.idKind <;> decide
  have hv := h.receive_windows hi
  have hr := h.results_when_ok
  rcases s.transition_cases b with ⟨hp, ht⟩ | ⟨-, -, ht⟩ | ⟨-, -, ht⟩ | ⟨-, ht⟩ | ⟨hp, hn, hc, ht⟩ |
    ⟨hp, hn, hc, ht⟩ | ⟨hp, hn, ht⟩ | ⟨hp, hn, ht⟩ | ⟨hp, hn, ht⟩ | ⟨hp, -, ht⟩ | ⟨-, -, ht⟩ <;> rw [ht]
  · exact absurd hp hi
  · constructor <;> simp [hv]
  · exact State.completeRx_inv _ (.inl rfl)
  · constructor <;> simp [hv]
    · omega
    · omega
  · obtain ⟨h1, h2, h3, h4⟩ := h.ident_progress hp
    have hb := State.gatherIdent_bound b h1 h2 h3
    have : s.rxCnt - 1 = 0 := by omega
    rw [this] at hb
    constructor <;> simp [hv, idFits, State.gatherIdent, hc, h4] at hb ⊢
    exact hb
  · obtain ⟨h1, h2, h3, h4⟩ := h.ident_progress hp
    have hb := State.gatherIdent_bound b h1 h2 h3
    have : s.rxCnt - 1 = 0 := by omega
    rw [this] at hb
    have := configLen_lt s.rxCfg
    constructor <;> simp [hv, idFits, State.gatherIdent, h4] at hb ⊢
    · exact ⟨by omega, hb⟩
    · exact this
  · obtain ⟨h1, h2, h3, h4⟩ := h.ident_progress hp
    have hb := State.gatherIdent_bound b h1 h2 h3
    constructor <;> simp [hv, State.gatherIdent, h4] at hb ⊢
    · exact ⟨by omega, by omega, hb⟩
    · omega
  · obtain ⟨h1, h2, h3⟩ := h.payload_progress hp
    constructor <;> simp [hv, State.gatherPayload, h3]
    omega
  · obtain ⟨h1, h2, h3⟩ := h.payload_progress hp
    have := h.count_bounded hi
    constructor <;> simp [hv, State.gatherPayload, h3]
    · omega
    · omega
  · obtain ⟨h1, h2, h3⟩ := h.end_progress hp
    have := configLen_lt s.rxCfg
    constructor <;> simp [State.acceptFrame, h2, h3, this]
  · exact State.completeRx_inv _ (.inr (.inl rfl))

/-- Feeding bytes keeps the invariant. -/
theorem State.Inv.feed {s : State} (h : s.Inv) (bs : List Byte) : (State.feed bs s).Inv := by
  induction bs generalizing s with
  | nil => exact h
  | cons b bs ih =>
    by_cases hi : s.rxPhase = .idle
    · rw [s.feed_idle _ hi]; exact h
    · rw [s.feed_cons b bs hi]; exact ih ((h.consume 1).transition b)

/-- Aborting a RECEIVE keeps the invariant. -/
theorem State.Inv.abortReceive {s : State} (h : s.Inv) : s.abortReceive.Inv := by
  rcases s.abortReceive_cases with ⟨-, e⟩ | ⟨hi, e⟩ <;> rw [e]
  · exact h
  · exact h.of_decoder (by constructor <;> rfl) (h.receive_needs_open hi)
      (State.completeRx_inv _ (.inr (.inr rfl)))

/-! ### Reads inside one field (R36, R37) -/

/-- A byte that is not the last missing one of its field leaves the phase, and one byte fewer missing. -/
theorem State.acceptByte_midField {s : State} (b : Byte) (hp : s.rxPhase = .ident ∨ s.rxPhase = .payload)
    (hn : 1 < s.rxCnt) :
    (s.acceptByte b).rxPhase = s.rxPhase ∧ (s.acceptByte b).rxCnt = s.rxCnt - 1 := by
  rcases hp with hp | hp
  · rw [s.acceptByte_ident b hp hn]; exact ⟨hp.symm, rfl⟩
  · rw [s.acceptByte_payload b hp hn]; exact ⟨hp.symm, rfl⟩

/-- From a state that meets the invariant, bytes up to the number missing of the field are all taken; fewer
leave the decoder in its phase with the rest still missing. -/
theorem State.Inv.feed_field {s : State} (h : s.Inv) (hi : s.rxPhase ≠ .idle) (bs : List Byte)
    (hl : bs.length ≤ s.rxCnt) :
    (State.feed bs s).rxStream = s.rxStream.drop bs.length ∧
      (State.feed bs s).rxCursor = s.rxCursor + bs.length ∧
      (bs.length < s.rxCnt →
        (State.feed bs s).rxPhase = s.rxPhase ∧ (State.feed bs s).rxCnt = s.rxCnt - bs.length) := by
  induction bs generalizing s with
  | nil => exact ⟨by simp [State.feed], by simp [State.feed], fun _ => by simp [State.feed]⟩
  | cons b bs ih =>
    rw [s.feed_cons b bs hi]
    by_cases hb : bs = []
    · subst hb
      refine ⟨by simp [State.feed], by simp [State.feed], fun hlt => ?_⟩
      have hlt' : 1 < s.rxCnt := by simpa using hlt
      have hp : s.rxPhase = .ident ∨ s.rxPhase = .payload := by
        have h1 := h.start_reads_one
        have h2 := h.end_progress
        cases hp : s.rxPhase <;> simp_all
      exact State.acceptByte_midField b hp hlt'
    · have hpos : 0 < bs.length := List.length_pos_iff.mpr hb
      have hlt : 1 < s.rxCnt := by simp at hl; omega
      have hp : s.rxPhase = .ident ∨ s.rxPhase = .payload := by
        have h1 := h.start_reads_one
        have h2 := h.end_progress
        cases hp : s.rxPhase <;> simp_all
      obtain ⟨h1, h2⟩ := State.acceptByte_midField b hp hlt
      obtain ⟨h3, h4, h5⟩ := ih ((h.consume 1).transition b)
        (by show (s.acceptByte b).rxPhase ≠ .idle; rw [h1]; exact hi)
        (by show bs.length ≤ (s.acceptByte b).rxCnt; rw [h2]; simp at hl; omega)
      have h3 : (State.feed bs (s.acceptByte b)).rxStream = (s.acceptByte b).rxStream.drop bs.length := h3
      have h4 : (State.feed bs (s.acceptByte b)).rxCursor = (s.acceptByte b).rxCursor + bs.length := h4
      have h5 : bs.length < (s.acceptByte b).rxCnt →
          (State.feed bs (s.acceptByte b)).rxPhase = (s.acceptByte b).rxPhase ∧
            (State.feed bs (s.acceptByte b)).rxCnt = (s.acceptByte b).rxCnt - bs.length := h5
      refine ⟨?_, ?_, fun hlt' => ?_⟩
      · rw [h3, s.acceptByte_rxStream, List.drop_drop, List.length_cons, Nat.add_comm]
      · rw [h4, s.acceptByte_rxCursor, List.length_cons]; omega
      · obtain ⟨h6, h7⟩ := h5 (by rw [h2]; simp at hlt'; omega)
        exact ⟨h6.trans h1, by rw [h7, h2, List.length_cons]; omega⟩

end Sys2Proof.Machine
end

