-- ==== Sys2Proof/Laws/PerInstr.lean ====
section
/-! SUPPORT. Facts said of every instruction, one lemma for each constructor. Family `WireLength`: how
many bytes an instruction has (R51 for the frames, assumption 3 for the command messages). -/

namespace Sys2Proof.Laws

/-- The number of bytes of an instruction in a block configured with `k`: `3 + W + L` for a frame, `W`
being its form's for an emitted frame and the configured kind's for a received one (R51, R58). -/
def wireLength (k : IdKind) : Instr → Nat
  | .frameDataStd _ p => 5 + p.length
  | .frameRemoteStd _ => 5
  | .frameDataExt _ p => 7 + p.length
  | .frameRemoteExt _ => 7
  | .rxframeData _ _ p => 3 + wireSize k + p.length
  | .rxframeRemote _ _ p => 3 + wireSize k + p.length
  | .new _ => 2
  | .send _ _ p => 6 + p.length
  | .receive => 1
  | .close => 1

/-- Every instruction has the number of bytes its row says. -/
def WireLength.Statement (i : Instr) : Prop :=
  ∀ k, (encode k i).length = wireLength k i

theorem length_wireFrame (cfg : Byte) (ids p : List Byte) :
    (wireFrame cfg ids p).length = 3 + ids.length + p.length := by
  simp [wireFrame]; omega

namespace WireLength

theorem frameDataStd (id : BitVec 16) (p : List Byte) : Statement (.frameDataStd id p) := by
  intro k; simp [encode, wireLength, length_wireFrame]

theorem frameRemoteStd (id : BitVec 16) : Statement (.frameRemoteStd id) := by
  intro k; simp [encode, wireLength, length_wireFrame]

theorem frameDataExt (id : BitVec 32) (p : List Byte) : Statement (.frameDataExt id p) := by
  intro k; simp [encode, wireLength, length_wireFrame]

theorem frameRemoteExt (id : BitVec 32) : Statement (.frameRemoteExt id) := by
  intro k; simp [encode, wireLength, length_wireFrame]

theorem rxframeData (x : BitVec 3) (id : Word) (p : List Byte) : Statement (.rxframeData x id p) := by
  intro k; simp [encode, wireLength, length_wireFrame]

theorem rxframeRemote (x : BitVec 3) (id : Word) (p : List Byte) :
    Statement (.rxframeRemote x id p) := by
  intro k; simp [encode, wireLength, length_wireFrame]

theorem new (kind : IdKind) : Statement (.new kind) := by
  intro k; simp [encode, wireLength]

theorem send (ft : FrameType) (id : Word) (p : List Byte) : Statement (.send ft id p) := by
  intro k; simp [encode, wireLength]; omega

theorem receive : Statement .receive := by
  intro k; simp [encode, wireLength]

theorem close : Statement .close := by
  intro k; simp [encode, wireLength]

end WireLength

end Sys2Proof.Laws
end

