-- ==== Sys2Proof/Laws/Step.lean ====
section
/-! SUPPORT. One step: the event at the head is handled with the rest behind it; the fetches of the
three ports; the frame at the RX cursor. -/

namespace Sys2Proof.Machine

variable (s : State)

theorem step_nil (h : s.events = []) : step s = .next s := by
  simp [step, runNext, h]

theorem step_cons (e : Event) (es : List Event) (h : s.events = e :: es) :
    step s = handle e (s.withEvents es) := by
  simp [step, runNext, h]

@[simp] theorem State.withEvents_withEvents (es es' : List Event) :
    (s.withEvents es').withEvents es = s.withEvents es := rfl

@[simp] theorem step_withEvents (e : Event) (es : List Event) :
    step (s.withEvents (e :: es)) = handle e (s.withEvents es) := rfl

@[simp] theorem State.withEvents_holdsValue (es : List Event) (r : HostReg) :
    (s.withEvents es).holdsValue r = s.holdsValue r := by
  cases r <;> rfl

theorem runDecoded_ok {p : Port} {bytes : List Byte} {i : Instr} (h : decode p bytes = .ok i) :
    runDecoded p bytes s = exec i s := by
  simp [runDecoded, h]

/-- The frame at the cursor is the head of the stream, as long as its ConfigByte says (R51, R58). -/
theorem State.frameAtCursor_some {bytes : List Byte} (h : s.frameAtCursor = some bytes) :
    ∃ m cfg rest, s.rxStream = m :: cfg :: rest ∧
      3 + wireSize s.idKind + configLen cfg ≤ s.rxStream.length ∧
      bytes = s.rxStream.take (3 + wireSize s.idKind + configLen cfg) := by
  unfold State.frameAtCursor receivedLength at h
  split at h
  · cases h
  · rename_i n hn
    split at hn
    · rename_i m cfg rest hs
      split_ifs at h with hl
      cases hn
      exact ⟨m, cfg, rest, hs, hl, by simpa using h.symm⟩
    · cases hn

/-- A stream that begins with a whole frame has it at the cursor. -/
theorem State.frameAtCursor_of_prefix {m cfg : Byte} {body rest : List Byte}
    (h : s.rxStream = m :: cfg :: body ++ rest)
    (hl : body.length = wireSize s.idKind + configLen cfg + 1) :
    s.frameAtCursor = some (m :: cfg :: body) := by
  have hn : receivedLength s.idKind s.rxStream = some (3 + wireSize s.idKind + configLen cfg) := by
    rw [h]; rfl
  have h3 : 3 + wireSize s.idKind + configLen cfg = (m :: cfg :: body).length := by simp; omega
  unfold State.frameAtCursor
  rw [hn]
  simp only
  rw [h3, h, List.take_left, if_pos (by simp)]

/-! ### The received frame classes and the walk -/

/-- A class runs on the frame it is (R91 to R97): the whole frame is consumed and accepted. -/
theorem exec_receivedInstr (cfg : Byte) (ids p rest : List Byte) (hs : s.rxPhase = .start)
    (hl : p.length = configLen cfg) (hi : ids.length = wireSize s.idKind)
    (hst : s.rxStream = wireFrame cfg ids p ++ rest) :
    exec (receivedInstr cfg (idOfBytes ids) p) s
      = .next ((s.consume (3 + wireSize s.idKind + p.length)).atEnd cfg ids p).acceptFrame := by
  obtain ⟨hw, -, he⟩ := receivedInstr_spec s.idKind cfg ids p hl hi
  have hpre : wireFrame cfg ids p <+: s.rxStream := ⟨rest, hst.symm⟩
  have hlen : (wireFrame cfg ids p).length = 3 + wireSize s.idKind + p.length := by
    simp [wireFrame, hi]; omega
  have key : ∀ i c, encode s.idKind i = wireFrame cfg ids p → wellFormed s.idKind i = true → c = cfg →
      receiveFrame i c (idOfBytes ids) p s
        = .next ((s.consume (3 + wireSize s.idKind + p.length)).atEnd cfg ids p).acceptFrame := by
    rintro i c he' hw' rfl
    unfold receiveFrame
    rw [if_pos ⟨hw', hs, he' ▸ hpre⟩, he', hlen]; rfl
  have hc := rxConfigByte_fields cfg
  cases hf : configFtype cfg
  all_goals
    rw [hf] at hc
    simp only [receivedInstr, hf] at hw he ⊢
    exact key _ _ he hw (by rw [hl]; exact hc)

/-- The walk over a stream that begins with a frame whose end byte is `e` (R96, R97). -/
theorem State.drain_frame (cfg e : Byte) (ids p rest : List Byte) (hs : s.rxPhase = .start)
    (hl : p.length = configLen cfg) (hi : ids.length = wireSize s.idKind)
    (hst : s.rxStream = Config.startMarker :: cfg :: (ids ++ p ++ [e]) ++ rest) :
    s.drain =
      if e = Config.endMarker then
        ((s.consume (3 + wireSize s.idKind + p.length)).atEnd cfg ids p).acceptFrame
      else ((s.consume (3 + wireSize s.idKind + p.length)).atEnd cfg ids p).completeRx .badEndByte := by
  unfold State.drain
  rw [hst, State.feed_append, State.feed_frame s cfg e ids p hs hi hl]
  split_ifs <;> rw [State.feed_idle _ _ rfl]

/-! ### Everything an event can do

`s.Moves e t` lists the ways in which event `e` leads from `s` to a next state `t`; `handle_next` says
that there are no others. A claim about every step is one case for each. -/

/-- The event is the issue of this instruction on the command port. -/
def Event.issues (e : Event) (i : Instr) : Prop :=
  ∃ m, e = .issue m ∧ decode .command m = .ok i

/-- The ways an event can lead to a next state. -/
inductive State.Moves (s : State) : Event → State → Prop where
  | new (e : Event) (k : IdKind) (he : e.issues (.new k)) (hl : s.life = .unconfigured) :
      State.Moves s e (((s.setIdKind k).setLife .opened).completeCtl .ok)
  | send (e : Event) (ft : FrameType) (id : Word) (p : List Byte)
      (he : e.issues (.send ft id p) ∨ ∃ ds, e = .issueHex ft id ds ∧ p = hexPayload ds)
      (hl : s.life ≠ .unconfigured) (hp : s.txPending = none) :
      State.Moves s e (s.beginSend ft id p).submit
  | receiveClosed (e : Event) (he : e.issues .receive) (hl : s.life = .closed)
      (hp : s.rxPhase = .idle) : State.Moves s e (s.beginReceive.completeRx .transportError)
  | receiveOpen (e : Event) (he : e.issues .receive) (hl : s.life = .opened)
      (hp : s.rxPhase = .idle) : State.Moves s e s.beginReceive.startDecode
  | closeOpen (e : Event) (he : e.issues .close) (hl : s.life = .opened) :
      State.Moves s e (((s.strobeClose.setLife .closed).abortReceive).completeCtl .ok)
  | closeClosed (e : Event) (he : e.issues .close) (hl : s.life = .closed) :
      State.Moves s e (s.completeCtl .ok)
  | noWrite (hp : s.txPending = none) : State.Moves s .writeDone s
  | write (b : List Byte) (k : IdKind) (ft : FrameType) (id : Word) (p : List Byte)
      (hp : s.txPending = some b) (hk : s.idKind = k) (hl : p.length ≤ 15)
      (hr : ft = .remote → p = []) (hid : id.toNat < 2 ^ (8 * wireSize k))
      (hb : b = wireFrame (configByte k ft p.length) (idBytes (wireSize k) id) p) :
      State.Moves s .writeDone ((s.appendTx b).completeTx .ok)
  | noFailure (n : Nat) (hp : s.txPending = none) : State.Moves s (.writeFails n) s
  | writeFails (n : Nat) (b : List Byte) (hp : s.txPending = some b) :
      State.Moves s (.writeFails n) ((s.deliver n b).completeTx .transportError)
  | readReturns (n : Nat) : State.Moves s (.readReturns n) (s.readReturns n)
  | readFails : State.Moves s .readFails s.abortReceive
  | drain : State.Moves s .readAll s.drain
  | frame (cfg : Byte) (ids p rest : List Byte) (hs : s.rxPhase = .start)
      (hl : p.length = configLen cfg) (hi : ids.length = wireSize s.idKind)
      (hst : s.rxStream = wireFrame cfg ids p ++ rest) :
      State.Moves s .readAll ((s.consume (3 + wireSize s.idKind + p.length)).atEnd cfg ids p).acceptFrame
  | arrive (bytes : List Byte) : State.Moves s (.arrive bytes) (s.arrive bytes)
  | hostRead (r : HostReg) : State.Moves s (.hostRead r) s
  | reset (n : Nat) : State.Moves s (.reset n) (s.assertReset n)

/-- What decodes on the command port is an operation. -/
theorem decodeCommand_ok {m : List Byte} {i : Instr} (h : decode .command m = .ok i) :
    (∃ k, i = .new k) ∨ (∃ ft id p, i = .send ft id p) ∨ i = .receive ∨ i = .close := by
  simp only [decode, decodeCommand] at h
  split at h
  · cases h
  · split_ifs at h
    · unfold decodeNew at h
      repeat' split at h
      all_goals cases h <;> simp
    · unfold decodeSend at h
      repeat' split at h
      all_goals cases h <;> simp
    · unfold decodeBare at h
      split at h <;> cases h
      simp
    · unfold decodeBare at h
      split at h <;> cases h
      simp

/-- An operation that answers a next state. -/
theorem exec_operation_next {e : Event} {i : Instr} {t : State} (he : e.issues i)
    (h : exec i s = .next t) : s.Moves e t := by
  obtain ⟨m, rfl, hd⟩ := he
  rcases decodeCommand_ok hd with ⟨k, rfl⟩ | ⟨ft, id, p, rfl⟩ | rfl | rfl
  · simp only [exec, execNew] at h
    split at h <;> cases h
    exact .new _ k ⟨m, rfl, hd⟩ ‹_›
  · simp only [exec, execSend] at h
    split_ifs at h with h1 h2
    cases h
    exact .send _ ft id p (.inl ⟨m, rfl, hd⟩) h1 (by simpa using h2)
  · simp only [exec, execReceive] at h
    split_ifs at h with h1 h2 h3 <;> cases h
    · exact .receiveClosed _ ⟨m, rfl, hd⟩ h3 (by simpa using h2)
    · exact .receiveOpen _ ⟨m, rfl, hd⟩ (by cases hl : s.life <;> simp_all) (by simpa using h2)
  · simp only [exec, execClose] at h
    split at h <;> cases h
    · exact .closeOpen _ ⟨m, rfl, hd⟩ ‹_›
    · exact .closeClosed _ ⟨m, rfl, hd⟩ ‹_›

/-- A frame form that a burst decodes to, where it answers a next state. -/
theorem exec_emittedInstr_next {k : IdKind} {ft : FrameType} {id : Word} {p : List Byte} {t : State}
    (h : exec (emittedInstr k ft id p) s = .next t) :
    s.idKind = k ∧ s.txPending = some (encode k (emittedInstr k ft id p)) ∧
      t = (s.appendTx (encode k (emittedInstr k ft id p))).completeTx .ok := by
  have key : ∀ i, emitFrame k i s = .next t → s.idKind = k ∧ s.txPending = some (encode k i) ∧
      t = (s.appendTx (encode k i)).completeTx .ok := by
    intro i hi
    rcases emitFrame_cases s k i with ⟨-, h1, h2, h3⟩ | ⟨-, h3⟩ <;> rw [h3] at hi
    · exact ⟨h1, h2, by cases hi; rfl⟩
    · cases hi
  cases k <;> cases ft <;> exact key _ h

/-- R134: the events that lead to a next state, and how. -/
theorem handle_next {e : Event} {t : State} (h : handle e s = .next t) : s.Moves e t := by
  cases e with
  | issue m =>
    simp only [handle, runDecoded] at h
    split at h
    · exact exec_operation_next s ⟨m, rfl, ‹_›⟩ h
    · cases h
  | issueHex ft id ds =>
    simp only [handle, exec, execSend] at h
    split_ifs at h with h1 h2
    cases h
    exact .send _ ft id _ (.inr ⟨ds, rfl, rfl⟩) h1 (by simpa using h2)
  | writeDone =>
    simp only [handle, State.completeWrite] at h
    split at h
    · cases h; exact .noWrite ‹_›
    · rename_i b hb
      simp only [runDecoded] at h
      split at h
      · rename_i i hd
        obtain ⟨k, ft, id, p, rfl, hl, hr, hid, hf⟩ := decodeBurst_ok hd
        obtain ⟨h1, h2, rfl⟩ := exec_emittedInstr_next s h
        rw [hb, Option.some.injEq] at h2
        rw [← h2]
        exact .write b k ft id p hb h1 hl hr hid hf
      · cases h
  | writeFails n =>
    simp only [handle, State.failWrite, State.raise_txc] at h
    split at h <;> cases h
    · exact .noFailure n ‹_›
    · exact .writeFails n _ ‹_›
  | readReturns n => cases h; exact .readReturns n
  | readFails => cases h; exact .readFails
  | readAll =>
    simp only [handle, State.serveReads] at h
    split_ifs at h with hs
    · split at h
      · cases h; exact .drain
      · rename_i bytes hb
        split at h
        · rename_i i hd
          obtain ⟨cfg, ids, p, rfl, hl, hi, rfl⟩ := decodeReceived_ok hd
          obtain ⟨_, c, _, -, -, h3⟩ := s.frameAtCursor_some hb
          have hst : s.rxStream = wireFrame cfg ids p
              ++ s.rxStream.drop (3 + wireSize s.idKind + configLen c) := by
            rw [h3, List.take_append_drop]
          rw [exec_receivedInstr s cfg ids p _ hs hl hi hst] at h
          cases h
          exact .frame cfg ids p _ hs hl hi hst
        · cases h; exact .drain
    · cases h; exact .drain
  | arrive bytes => cases h; exact .arrive bytes
  | hostRead r =>
    simp only [handle, State.hostRead] at h
    split_ifs at h
    cases h
    exact .hostRead r
  | reset n => cases h; exact .reset n

/-- A step that answers a next state stands still with no event left, or its first event moves it. -/
theorem step_next {t : State} (h : step s = .next t) :
    (s.events = [] ∧ t = s) ∨
    ∃ e es, s.events = e :: es ∧ (s.withEvents es).Moves e t := by
  cases hs : s.events with
  | nil => rw [step_nil s hs] at h; exact .inl ⟨rfl, by cases h; rfl⟩
  | cons e es => rw [step_cons s e es hs] at h; exact .inr ⟨e, es, rfl, handle_next _ h⟩

end Sys2Proof.Machine
end

