-- ==== Sys2Proof/Laws/Run.lean ====
section
/-! SUPPORT. The end of a run: the operation of a decoded message, what `runOver` says of the operation in
flight and of the next event. -/

namespace Sys2Proof.Machine

variable {s : State}

theorem Event.operation_of_issues {e : Event} {i : Instr} (h : e.issues i) : e.operation = operationOf i := by
  obtain ⟨m, rfl, hd⟩ := h
  simp [Event.operation, hd]

theorem State.noneInFlight_iff : s.noneInFlight = true ↔ s.txPending = none ∧ s.rxPhase = .idle := by
  simp [State.noneInFlight]

theorem State.runOver_iff :
    s.runOver = true ↔ s.txPending = none ∧ s.rxPhase = .idle ∧ allRefused s.life s.events = true := by
  simp [State.runOver, State.noneInFlight, and_assoc]

/-- An operation at the head of refused events is refused, and so are those behind it. -/
theorem allRefused_operation {l : Life} {e : Event} {es : List Event} {op : Operation}
    (h : e.operation = some op) (ha : allRefused l (e :: es) = true) :
    l.refuses op = true ∧ allRefused l es = true := by
  cases e <;> first | (simpa [allRefused, h] using ha) | cases h

/-- An event that issues no operation and is no reset leaves the rest as it is. -/
theorem allRefused_other {l : Life} {e : Event} {es : List Event} (h : e.operation = none)
    (hr : ∀ n, e ≠ .reset n) (ha : allRefused l (e :: es) = true) : allRefused l es = true := by
  cases e <;> first | (simpa [allRefused, h] using ha) | exact absurd rfl (hr _)

end Sys2Proof.Machine
end

