-- ==== Sys2Proof/Tests/Slice0.lean ====
section
/-! SUPPORT. Tests, each expected result taken from spec/95_test_vectors.md or worked out by hand from
the rule named; and for every obligation with hypotheses, a witness that meets all of them at once. -/

namespace Sys2Proof.Tests

open Sys2Proof Sys2Proof.Machine

/-! ### Small states -/

/-- A block configured with `k` and open. -/
def opened (k : IdKind) : State :=
  { State.reset with life := .opened, idKind := k }

/-- The same, a RECEIVE standing at its start, these bytes having arrived. -/
def receiving (k : IdKind) (bytes : List Byte) : State :=
  { (opened k).startDecode with rxStream := bytes }

/-- The same, a SEND waiting in the write of this burst. -/
def sending (k : IdKind) (burst : List Byte) : State :=
  (opened k).holdBurst burst

/-- The next state, if there is one. -/
def after : Host.Outcome State Fault Refusal → Option State
  | .next s => some s
  | _ => none

/-- What RECEIVE returned: its status, the frame if there is one, and the bytes left. -/
def received (s : State) : Status × Option (FrameType × Word × List Byte) × List Byte :=
  (s.rxStatus, if s.rxFrameValid then some (s.rxFtype, s.rxId, s.rxPayload) else none, s.rxStream)

/-! ### WellFormed refuses, one term for each check -/

theorem test_wf_dataStd : wellFormed .standard (.frameDataStd 1 (List.replicate 16 0)) = false := by decide
theorem test_wf_dataExt : wellFormed .extended (.frameDataExt 1 (List.replicate 16 0)) = false := by decide
theorem test_wf_rxData : wellFormed .standard (.rxframeData 6 1 (List.replicate 16 0)) = false := by decide
theorem test_wf_rxRemote : wellFormed .extended (.rxframeRemote 6 1 (List.replicate 16 0)) = false := by decide
theorem test_wf_rxData_id : wellFormed .standard (.rxframeData 6 0x10000 []) = false := by decide
theorem test_wf_rxRemote_id : wellFormed .standard (.rxframeRemote 6 0x10000 []) = false := by decide
theorem test_wf_boundary : wellFormed .standard (.rxframeData 6 0xFFFF (List.replicate 15 0)) = true := by
  decide

/-! ### Decoding, bit by bit from the encodings of R50, R52, R60, R62 -/

/-- S1: `AA`, `1100 0011`, `FF 07`, three payload bytes, `55`. -/
theorem test_decode_dataStd : decode .txBurst [0b10101010, 0b11000011, 0b11111111, 0b00000111, 1, 2, 3,
    0b01010101] = .ok (.frameDataStd 0x7FF [1, 2, 3]) := by decide
/-- S2: `1101 0000`. -/
theorem test_decode_remoteStd : decode .txBurst [0b10101010, 0b11010000, 0b00100000, 0, 0b01010101]
    = .ok (.frameRemoteStd 0x20) := by decide
/-- EV8: `1110 0100`. -/
theorem test_decode_dataExt : decode .txBurst [0b10101010, 0b11100100, 0x78, 0x56, 0x34, 0x12, 0xDE, 0xAD,
    0xBE, 0xEF, 0b01010101] = .ok (.frameDataExt 0x12345678 [0xDE, 0xAD, 0xBE, 0xEF]) := by decide
/-- EV9: `1111 0000`. -/
theorem test_decode_remoteExt : decode .txBurst [0b10101010, 0b11110000, 0xFF, 0xFF, 0xFF, 0x1F,
    0b01010101] = .ok (.frameRemoteExt 0x1FFFFFFF) := by decide
/-- DV5: `0000 0011`. -/
theorem test_decode_rxData : decode (.rxStream .standard) [0b10101010, 0b00000011, 0xFF, 0x07, 1, 2, 3,
    0b01010101] = .ok (.rxframeData 0b000 0x7FF [1, 2, 3]) := by decide
/-- DV7: `1101 0010`. -/
theorem test_decode_rxRemote : decode (.rxStream .standard) [0b10101010, 0b11010010, 0x20, 0, 1, 2,
    0b01010101] = .ok (.rxframeRemote 0b110 0x20 [1, 2]) := by decide
theorem test_decode_new : decode .command [0b00, 1] = .ok (.new .extended) := by decide
theorem test_decode_send : decode .command [0b01, 1, 0x20, 0, 0, 0] = .ok (.send .remote 0x20 []) := by decide
theorem test_decode_receive : decode .command [0b10] = .ok .receive := by decide
theorem test_decode_close : decode .command [0b11] = .ok .close := by decide

/-! ### Decoding rejects by name -/

theorem test_reject_start : decode .txBurst [0x55, 0xC0, 0, 0, 0x55] = .error .badStartMarker := by decide
/-- `0xD1` is never produced (R53). -/
theorem test_reject_config : decode .txBurst [0xAA, 0xD1, 0, 0, 0, 0x55] = .error .badConfigByte := by decide
theorem test_reject_end : decode (.rxStream .standard) [0xAA, 0xC0, 0x34, 0x12, 0xAA] = .error .badEndMarker := by
  decide
theorem test_reject_short : decode (.rxStream .extended) [0xAA, 0xC0, 0x34, 0x12, 0x55] = .error .truncated := by
  decide
theorem test_reject_long : decode .txBurst [0xAA, 0xC0, 0x34, 0x12, 0x55, 0] = .error .trailing := by decide
theorem test_reject_selector : decode .command [4] = .error .badSelector := by decide
theorem test_reject_operand : decode .command [0, 2] = .error .badOperand := by decide

/-! ### Words of the opcode table -/

theorem test_table_forms : [0xC0, 0xD0, 0xE0, 0xF0].map (decodeTableWord 8)
    = [some (.frameDataStd 0 []), some (.frameRemoteStd 0), some (.frameDataExt 0 []),
       some (.frameRemoteExt 0)] := by decide
theorem test_table_operations : [0, 1, 2, 3].map (decodeTableWord 8)
    = [some (.new .standard), some (.send .data 0 []), some .receive, some .close] := by decide
theorem test_table_received : [0x20, 0x10].map (decodeTableWord 8)
    = [some (.rxframeData 0b001 0 []), some (.rxframeRemote 0 0 [])] := by decide
/-- S2's frame as one word, the first byte in bits 7:0. -/
theorem test_table_whole_frame : decodeTableWord 40 0x550020D0AA = some (.frameRemoteStd 0x20) := by decide
/-- A placed word is what the next step runs: a frame form is written, a class is received. -/
theorem test_fetch_form : (after (step (State.reset.withFetchWord 8 0xE0))).map (·.txBursts)
    = some [[0xAA, 0xE0, 0, 0, 0, 0, 0x55]] := by decide
theorem test_fetch_class : ∃ t, step (State.reset.withFetchWord 8 0x10) = .next t ∧
    received t = (.ok, some (.remote, 0, []), []) := ⟨_, rfl, by decide⟩
theorem test_fetch_new : (after (step (State.reset.withFetchWord 8 0))).map (·.life) = some .opened := by decide
theorem test_fetch_send : (after (step (State.reset.withFetchWord 8 1))).map (·.txPending)
    = some (some [0xAA, 0xC0, 0, 0, 0x55]) := by decide
theorem test_fetch_receive : (after (step (State.reset.withFetchWord 8 2))).map (·.rxPhase) = some .start := by
  decide
theorem test_fetch_close : (after (step (State.reset.withFetchWord 8 3))).map (·.closeStrobes) = some 1 := by
  decide
/-- R13: issued right after reset itself, with no Converter, RECEIVE is refused. -/
theorem test_receive_unconfigured : step (State.reset.withEvents [.issue [2]])
    = .refused (.lifeCycle .receive) := rfl

/-! ### The helpers -/

/-- R70's vectors. -/
theorem test_byteSizeHelper : [0, 1, 0xFF, 0x100, 0xFFFF, 0x10000, 0xFFFFFF, 0x1000000, 0xFFFFFFFF].map
    byteSizeHelper = [0, 1, 1, 2, 2, 3, 3, 4, 4] := by decide
/-- R73's vectors. -/
theorem test_configByte : [configByte .standard .data 0, configByte .standard .data 8,
    configByte .standard .data 15, configByte .standard .remote 0, configByte .extended .data 0,
    configByte .extended .data 4, configByte .extended .data 15, configByte .extended .remote 0]
    = [0xC0, 0xC8, 0xCF, 0xD0, 0xE0, 0xE4, 0xEF, 0xF0] := by decide
/-- R78's vectors `"F"`, `"123"`, `"ABCDE"`. -/
theorem test_hexPayload : [hexPayload [15], hexPayload [1, 2, 3], hexPayload [10, 11, 12, 13, 14]]
    = [[0x0F], [0x01, 0x23], [0x0A, 0xBC, 0xDE]] := by decide
/-- S3: identifier `0x1234`. -/
theorem test_idBytes : idBytes 2 0x1234 = [0x34, 0x12] ∧ idOfBytes [0x34, 0x12] = 0x1234 := by decide

/-! ### ENCODE -/

/-- EV14, EV15, EV12: the first failing check is reported. -/
theorem test_encode_priority :
    encodeWire .remote 0x10000 (List.replicate 16 0) .standard = .error .remoteFrameWithPayload ∧
    encodeWire .data 0x10000 (List.replicate 16 0) .standard = .error .idTooLarge ∧
    encodeWire .data 0x123 (List.replicate 16 0) .standard = .error .payloadTooLarge := by decide
/-- EV5, EV6, EV7: the boundary of a Standard identifier. -/
theorem test_encode_boundary :
    encodeWire .data 0xFFFF [] .standard = .ok [0xAA, 0xC0, 0xFF, 0xFF, 0x55] ∧
    encodeWire .data 0x10000 [] .standard = .error .idTooLarge ∧
    encodeWire .data 0x10000 [] .extended = .ok [0xAA, 0xE0, 0, 0, 1, 0, 0x55] := by decide

/-! ### One step of each instruction -/

/-- R110: NEW configures; in an open block it is refused (R13). -/
theorem test_new : (after (exec (.new .extended) State.reset)).map (fun s => (s.life, s.idKind, s.ctlStatus))
    = some (.opened, .extended, .ok) := by decide
theorem test_new_again : exec (.new .extended) (opened .standard) = .refused (.lifeCycle .new) := rfl

/-- EV1 up to the write; nothing is on the TX stream yet. -/
theorem test_send : (after (exec (.send .data 0x7FF [1, 2, 3]) (opened .standard))).map
    (fun s => (s.txPending, s.txBursts)) = some (some [0xAA, 0xC3, 0xFF, 0x07, 1, 2, 3, 0x55], []) := by decide
/-- P4: on a closed Converter an invalid frame still reports its encode error. -/
theorem test_send_closed : (after (exec (.send .data 0x10000 []) { opened .standard with life := .closed })).map
    (fun s => (s.txStatus, s.txPending)) = some (.idTooLarge, none) := by decide

/-- DV12: RECEIVE waits. -/
theorem test_receive : (after (exec .receive (opened .standard))).map (fun s => (s.rxPhase, s.rxCnt))
    = some (.start, 1) := by decide
/-- P4: RECEIVE on a closed Converter. -/
theorem test_receive_closed : (after (exec .receive { opened .standard with life := .closed })).map
    (fun s => (s.rxPhase, s.rxStatus)) = some (.idle, .transportError) := by decide

/-- R111 case (c): a RECEIVE in flight ends with `TransportError`. -/
theorem test_close : (after (exec .close (receiving .standard [0xAA]))).map
    (fun s => (s.life, s.closeStrobes, s.rxStatus, s.rxStream)) = some (.closed, 1, .transportError, [0xAA]) := by
  decide
/-- R111 case (a): no second strobe. -/
theorem test_close_again : (after (exec .close { opened .standard with life := .closed })).map
    (fun s => (s.closeStrobes, s.ctlStatus)) = some (0, .ok) := by decide

/-- EV18: a one-byte identifier is padded behind it. -/
theorem test_frameDataStd : (after (exec (.frameDataStd 0xFF [0xFF])
    (sending .standard [0xAA, 0xC1, 0xFF, 0, 0xFF, 0x55]))).map (fun s => (s.txBursts, s.txStatus, s.txPending))
    = some ([[0xAA, 0xC1, 0xFF, 0, 0xFF, 0x55]], .ok, none) := by decide
/-- R34: no frame but the one the SEND holds. -/
theorem test_frameDataStd_other : exec (.frameDataStd 0xFE [0xFF])
    (sending .standard [0xAA, 0xC1, 0xFF, 0, 0xFF, 0x55]) = .refused .frameNotInFlight := rfl
/-- EV2. -/
theorem test_frameRemoteStd : (after (exec (.frameRemoteStd 0x20)
    (sending .standard [0xAA, 0xD0, 0x20, 0, 0x55]))).map (·.txBursts) = some [[0xAA, 0xD0, 0x20, 0, 0x55]] := by
  decide
/-- EV7. -/
theorem test_frameDataExt : (after (exec (.frameDataExt 0x10000 [])
    (sending .extended [0xAA, 0xE0, 0, 0, 1, 0, 0x55]))).map (·.txBursts)
    = some [[0xAA, 0xE0, 0, 0, 1, 0, 0x55]] := by decide
/-- EV9. -/
theorem test_frameRemoteExt : (after (exec (.frameRemoteExt 0x1FFFFFFF)
    (sending .extended [0xAA, 0xF0, 0xFF, 0xFF, 0xFF, 0x1F, 0x55]))).map (·.txBursts)
    = some [[0xAA, 0xF0, 0xFF, 0xFF, 0xFF, 0x1F, 0x55]] := by decide
/-- DV6: the EXT bit of a frame is ignored. -/
theorem test_rxframeData : ∃ t, exec (.rxframeData 0b111 0x7FF [1, 2, 3])
    (receiving .standard [0xAA, 0xE3, 0xFF, 0x07, 1, 2, 3, 0x55, 0x99]) = .next t ∧
    received t = (.ok, some (.data, 0x7FF, [1, 2, 3]), [0x99]) := ⟨_, rfl, by decide⟩
/-- DV7: a Remote frame with payload is accepted. -/
theorem test_rxframeRemote : ∃ t, exec (.rxframeRemote 0b110 0x20 [1, 2])
    (receiving .standard [0xAA, 0xD2, 0x20, 0, 1, 2, 0x55]) = .next t ∧
    received t = (.ok, some (.remote, 0x20, [1, 2]), []) := ⟨_, rfl, by decide⟩

/-! ### The walk -/

/-- DV3. -/
theorem test_badStart : received (receiving .standard [0, 0xAA, 0xC0, 0x34, 0x12, 0x55]).drain
    = (.badStartByte, none, [0xAA, 0xC0, 0x34, 0x12, 0x55]) := by decide
/-- DV22: a Standard frame on an Extended decoder. -/
theorem test_badEnd : received
    (receiving .extended [0xAA, 0xC3, 0xFF, 0x07, 1, 2, 3, 0x55, 0xAA, 0xC0, 0x55]).drain
    = (.badEndByte, none, [0x55]) := by decide
/-- DV10: blocked in the payload, one byte missing. -/
theorem test_blocked : (fun s => (s.rxPhase, s.rxCnt, s.rxAcc, s.rxGathered, s.rxCursor))
    (receiving .extended [0xAA, 0xC3, 0xFF, 0x07, 1, 2, 3, 0x55]).drain
    = (Phase.payload, 1, 0x020107FF, [3, 0x55], 8) := by decide
/-- The slicing vector of part 3. -/
theorem test_slicing : received ([0, 1, 1, 1, 1, 2, 1, 0, 1].foldl (fun s n => s.readReturns n)
    (receiving .standard [0xAA, 0xC3, 0xFF, 0x07, 1, 2, 3, 0x55]))
    = (.ok, some (.data, 0x7FF, [1, 2, 3]), []) := by decide
/-- R35: a failed write that delivered two bytes. -/
theorem test_writeFails : (fun s => (s.txBursts, s.txStatus, s.txPending))
    ((sending .standard [0xAA, 0xC0, 1, 0, 0x55]).failWrite 2)
    = ([[0xAA, 0xC0]], Status.transportError, none) := by decide
/-- R18, R25: reading a status before any operation has completed. -/
theorem test_hostRead : step (State.reset.withEvents [.hostRead .rxStatus])
    = .fault (.readOutsideWindow .rxStatus) := rfl

/-! ### Witnesses: for every obligation with hypotheses, what meets them all

The numbers are at the boundaries of the ranges. -/

theorem witness_ConfigByteLayout : configByte .extended .remote 15 = 0xFF ∧ 15 ≤ 15 := by decide

theorem witness_ByteSizeHelperMinimal : (0xFFFF#32).toNat < 256 ^ 2 ∧ byteSizeHelper 0xFFFF = 2 := by decide

theorem witness_IdentifierLeastSignificantFirst :
    1 < wireSize .standard ∧ (0xFFFF#32).toNat < 2 ^ (8 * wireSize .standard) ∧
      [0x78#8, 0x56, 0x34, 0x12].length ≤ 4 := by decide

/-- EV11, EV24: the longest frames. -/
theorem witness_FrameLength :
    (∃ f, encodeWire .data 0x123 (List.replicate 15 0) .standard = .ok f ∧ f.length = 20) ∧
      ∃ f, encodeWire .data 0x7FF (List.replicate 15 0) .extended = .ok f ∧ f.length = 22 :=
  ⟨⟨_, rfl, by decide⟩, ⟨_, rfl, by decide⟩⟩

/-- EV16, DV24: markers in the payload; nine bytes. -/
theorem witness_PayloadVerbatim :
    let s := receiving .standard [0xAA, 0xC9, 1, 0, 0x11, 0x22, 0x33, 0x44, 0x55, 0x66, 0x77, 0x88, 0x99, 0x55]
    encodeWire .data 0x7FF [0xAA, 0x55, 0xAA] .standard
      = .ok [0xAA, 0xC3, 0xFF, 0x07, 0xAA, 0x55, 0xAA, 0x55] ∧
    s.rxPhase = .start ∧ s.rxStream = 0xAA#8 :: 0xC9 :: ([1, 0]
      ++ [0x11, 0x22, 0x33, 0x44, 0x55, 0x66, 0x77, 0x88, 0x99] ++ 0x55#8 :: []) ∧
    [1#8, 0].length = wireSize s.idKind ∧ 9 = ((0xC9#8).extractLsb' 0 4).toNat := by decide

theorem witness_EncodeInjective :
    encodeWire .data 0x1234 [] .standard = .ok [0xAA, 0xC0, 0x34, 0x12, 0x55] := by decide

theorem witness_DecodeEncodeAgree : wellFormed .standard (.rxframeRemote 7 0xFFFF (List.replicate 15 1)) = true ∧
    wellFormed .extended (.frameDataExt 0xFFFFFFFF (List.replicate 15 1)) = true := by decide

theorem witness_EncodeDecodeAgree : decode .command [1, 0, 0, 0, 0, 0] = .ok (.send .data 0 []) ∧
    decode .txBurst [0xAA, 0xC0, 0, 0, 0x55] = .ok (.frameDataStd 0 []) ∧
    decode (.rxStream .standard) [0xAA, 0xFF, 0, 0, 1, 2, 3, 4, 5, 6, 7, 8, 9, 10, 11, 12, 13, 14, 15, 0x55]
      = .ok (.rxframeRemote 7 0 [1, 2, 3, 4, 5, 6, 7, 8, 9, 10, 11, 12, 13, 14, 15]) := by decide

theorem witness_NewConfigures :
    State.reset.life = .unconfigured ∧ (opened .standard).life ≠ .unconfigured := by decide

theorem witness_RefusedBeforeNew : State.reset.life = .unconfigured := rfl

theorem witness_CloseEndsTransport :
    ((opened .standard).life = .opened ∧ (opened .standard).rxPhase = .idle) ∧
    ((receiving .standard []).life = .opened ∧ (receiving .standard []).rxPhase ≠ .idle) ∧
    ({ opened .standard with life := .closed } : State).life = .closed := by decide

/-- NEW and the reset input, each changing the kind. -/
theorem witness_KindFixedAfterNew :
    (∃ t, step (State.reset.withEvents [.issue [0, 1]]) = .next t ∧ t.idKind ≠ State.reset.idKind) ∧
    ∃ t, step ((opened .extended).withEvents [.reset 0]) = .next t ∧ t.idKind ≠ (opened .extended).idKind :=
  ⟨⟨_, rfl, by decide⟩, ⟨_, rfl, by decide⟩⟩

theorem witness_LifeMoves :
    (∃ t, step (State.reset.withEvents [.issue [0, 1]]) = .next t ∧ t.life = .opened) ∧
    (∃ t, step ((opened .standard).withEvents [.issue [3]]) = .next t ∧ t.life = .closed) ∧
    ∃ t, step ((opened .standard).withEvents [.reset 0]) = .next t ∧ t.life = .unconfigured :=
  ⟨⟨_, rfl, rfl⟩, ⟨_, rfl, rfl⟩, ⟨_, rfl, rfl⟩⟩

theorem witness_SendValidWaitsInWrite : (opened .standard).life = .opened ∧
    (opened .standard).txPending = none ∧
    encodeWire .data 0xFFFF [] (opened .standard).idKind = .ok [0xAA, 0xC0, 0xFF, 0xFF, 0x55] := by decide

theorem witness_SendOnClosedConverter :
    let s : State := { opened .standard with life := .closed }
    s.life = .closed ∧ s.txPending = none ∧
      encodeWire .data 1 [] s.idKind = .ok [0xAA, 0xC0, 1, 0, 0x55] := by decide

/-- Each error at the first operand that has it: one byte (EV13), `0x10000` (EV6), 16 bytes (EV12). -/
theorem witness_SendInvalidReportsEncodeError :
    let s := opened .standard
    (s.life ≠ .unconfigured ∧ s.txPending = none) ∧
    (FrameType.remote = .remote ∧ [0#8] ≠ []) ∧
    ((FrameType.data = .remote → [0#8] = []) ∧ s.idKind = .standard ∧ 0xFFFF < (0x10000#32).toNat) ∧
    (FrameType.data = .data ∧ (s.idKind = .standard → (0xFFFF#32).toNat ≤ 0xFFFF) ∧
      15 < (List.replicate 16 0#8).length) := by decide

theorem witness_EmittedFormsWritten :
    ((opened .standard).idKind = .standard ∧ (List.replicate 15 7#8).length ≤ 15 ∧
      (sending .standard ([0xAA#8, configByte .standard .data 15] ++ idBytes 2 ((0xFFFF#16).setWidth 32)
        ++ List.replicate 15 7 ++ [0x55#8])).txPending
      = some ([0xAA#8, 0xCF#8] ++ [0xFF#8, 0xFF] ++ List.replicate 15 7 ++ [0x55#8])) ∧
    (sending .standard [0xAA, 0xD0, 0x20, 0, 0x55]).txPending
      = some ([0xAA#8, 0xD0#8] ++ idBytes 2 ((0x20#16).setWidth 32) ++ [0x55#8]) ∧
    ((opened .extended).idKind = .extended ∧
      (sending .extended [0xAA, 0xE0, 0, 0, 1, 0, 0x55]).txPending
      = some ([0xAA#8, configByte .extended .data 0] ++ idBytes 4 0x10000 ++ [] ++ [0x55#8])) ∧
    (sending .extended [0xAA, 0xF0, 0xFF, 0xFF, 0xFF, 0x1F, 0x55]).txPending
      = some ([0xAA#8, 0xF0#8] ++ idBytes 4 0x1FFFFFFF ++ [0x55#8]) := by decide

theorem witness_OneSendOneBurst : (opened .standard).txPending = none ∧ (opened .standard).life = .opened ∧
    encodeWire .data 0x7FF [1, 2, 3] (opened .standard).idKind
      = .ok [0xAA, 0xC3, 0xFF, 0x07, 1, 2, 3, 0x55] ∧
    encodeWire .data 0x10000 [] (opened .standard).idKind = .error .idTooLarge := by decide

theorem witness_FailedWriteLeavesPrefix :
    (sending .standard [0xAA, 0xC0, 1, 0, 0x55]).txPending = some [0xAA, 0xC0, 1, 0, 0x55] := rfl

/-- The three ways the TX stream grows: the whole frame, the prefix of a failed write, that of a reset. -/
theorem witness_TxStreamOnlyGrows :
    let s := sending .standard [0xAA, 0xC0, 1, 0, 0x55]
    (after (step (s.withEvents [.writeDone]))).map (·.txBursts) = some [[0xAA, 0xC0, 1, 0, 0x55]] ∧
    (after (step (s.withEvents [.writeFails 1]))).map (·.txBursts) = some [[0xAA]] ∧
    (after (step (s.withEvents [.reset 4]))).map (·.txBursts) = some [[0xAA, 0xC0, 1, 0]] := by decide

theorem witness_SendWaitsForTransport :
    let s := sending .standard [0xAA, 0xC0, 1, 0, 0x55]
    s.txPending = some [0xAA, 0xC0, 1, 0, 0x55] ∧
    (after (step (s.withEvents [.writeDone]))).map (·.txPending) = some none ∧
    (after (step (s.withEvents [.writeFails 0]))).map (·.txPending) = some none ∧
    (after (step (s.withEvents [.reset 0]))).map (·.txPending) = some none := by decide

theorem witness_ReceiveStarts :
    ((opened .standard).rxPhase = .idle ∧ (opened .standard).life = .opened) ∧
    ({ opened .standard with life := .closed } : State).life = .closed := by decide

theorem witness_NoHalfDecodedFrame :
    (opened .extended).rxPhase = .idle ∧ (opened .extended).life = .opened := by decide

theorem witness_ReceivedClassesAccepted :
    let p : List Byte := List.replicate 15 9
    let d := receiving .standard ([0xAA, 0xEF, 0xFF, 0xFF] ++ p ++ [0x55, 0xAA])
    let r := receiving .standard ([0xAA, 0x1F, 0xFF, 0xFF] ++ p ++ [0x55])
    p.length ≤ 15 ∧ d.rxPhase = .start ∧ (0xFFFF#32).toNat < 2 ^ (8 * wireSize d.idKind) ∧
    d.rxStream = [0xAA#8, rxConfigByte 7 .data p.length] ++ idBytes (wireSize d.idKind) 0xFFFF ++ p
      ++ [0x55#8] ++ [0xAA] ∧
    r.rxStream = [0xAA#8, rxConfigByte 0 .remote p.length] ++ idBytes (wireSize r.idKind) 0xFFFF ++ p
      ++ [0x55#8] ++ [] := by decide

/-- Each of `decode_fn`'s cases, from `START`: DV14, DV13, DV21, DV2. -/
theorem witness_WalkIsDecodeFn :
    (receiving .standard [0xAA]).rxPhase = .start ∧
    decodeFn .standard [0xAA] = .blocked 1 ∧ decodeFn .standard [0x55, 0xAA] = .badStart 1 ∧
    decodeFn .standard [0xAA, 0xC0, 0x34, 0x12, 0xAA] = .badEnd 5 ∧
    decodeFn .standard [0xAA, 0xD0, 0x20, 0, 0x55] = .frame .remote 0x20 [] 5 := by decide

theorem witness_ReadTakesWhatWasAsked :
    State.reset.rxPhase = .idle ∧ ((receiving .standard [0xAA, 0xC0]).readReturns 5).rxStream = [0xC0] := by
  decide

theorem witness_BadStartConsumesOneByte :
    let s := receiving .standard [0x55, 0xAA]
    s.rxPhase = .start ∧ s.rxStream = 0x55#8 :: [0xAA] ∧ 0x55#8 ≠ 0xAA#8 := by decide

/-- P5. -/
theorem witness_BadEndConsumesWholeRun :
    let s := receiving .standard [0xAA, 0xC1, 1, 0, 0x99, 0, 0xAA]
    s.rxPhase = .start ∧ s.rxStream = 0xAA#8 :: 0xC1 :: ([1, 0] ++ [0x99] ++ 0 :: [0xAA]) ∧
      [1#8, 0].length = wireSize s.idKind ∧ [0x99#8].length = ((0xC1#8).extractLsb' 0 4).toNat ∧
      0#8 ≠ 0x55#8 := by decide

theorem witness_IgnoredConfigBitsNoEffect :
    ({ opened .standard with rxPhase := .config, rxCnt := 1 } : State).rxPhase = .config ∧
      (0xE3#8).extractLsb' 0 5 = (0x03#8).extractLsb' 0 5 := by decide

theorem witness_RoundTrip :
    let s := receiving .extended ([0xAA, 0xF0, 0xFF, 0xFF, 0xFF, 0x1F, 0x55] ++ [1])
    s.rxPhase = .start ∧
    encodeWire .remote 0x1FFFFFFF [] s.idKind = .ok [0xAA, 0xF0, 0xFF, 0xFF, 0xFF, 0x1F, 0x55] ∧
    s.rxStream = [0xAA, 0xF0, 0xFF, 0xFF, 0xFF, 0x1F, 0x55] ++ [1] ∧
    (0x03#8).extractLsb' 6 2 ≠ 0b11#2 ∧ ¬((0xE0#8).getLsbD 5 = true ↔ IdKind.standard = .extended) ∧
    ((0xD2#8).getLsbD 4 = true ∧ (0xD2#8).extractLsb' 0 4 ≠ 0#4) := by decide

theorem witness_FailedReadEndsReceive : (receiving .standard []).rxPhase ≠ .idle := by decide

theorem witness_EmptyReadIsAWait :
    (receiving .standard []).rxStream = [] ∧ (receiving .standard [0xAA]).rxStream ≠ [] := by decide

/-- A step that takes bytes, and one in which bytes arrive. -/
theorem witness_RxStreamConserved :
    (after (step ((receiving .standard [0, 1]).withEvents [.readAll]))).map (·.rxStream) = some [1] ∧
    (after (step (State.reset.withEvents [.arrive [1]]))).map (·.rxStream) = some [1] := by decide

theorem witness_PhaseMovesForward :
    (after (step ((receiving .standard [0xAA]).withEvents [.readReturns 1]))).map (·.rxPhase) = some .config ∧
    (after (step ((opened .standard).withEvents [.issue [2]]))).map (·.rxPhase) = some .start := by decide

/-- The command port, the burst in flight, the frame at the cursor. -/
theorem witness_StepRunsDecoded :
    decode .command [3] = .ok .close ∧
    ((sending .standard [0xAA, 0xD0, 0x20, 0, 0x55]).txPending = some [0xAA, 0xD0, 0x20, 0, 0x55] ∧
      decode .txBurst [0xAA, 0xD0, 0x20, 0, 0x55] = .ok (.frameRemoteStd 0x20)) ∧
    let s := receiving .standard ([0xAA, 0xD2, 0x20, 0, 1, 2, 0x55] ++ [9])
    s.rxPhase = .start ∧ s.rxStream = [0xAA, 0xD2, 0x20, 0, 1, 2, 0x55] ++ [9] ∧
      decode (.rxStream s.idKind) [0xAA, 0xD2, 0x20, 0, 1, 2, 0x55]
        = .ok (.rxframeRemote 0b110 0x20 [1, 2]) := by decide

theorem witness_HostReadWindow :
    (({ State.reset with ctlStatusValid := true } : State).visible .ctlStatus).isSome ∧
      State.reset.visible .rxId = none := by decide

theorem witness_OverlapFaults :
    ((sending .standard [0xAA, 0xD0, 0x20, 0, 0x55]).life ≠ .unconfigured ∧
      (sending .standard [0xAA, 0xD0, 0x20, 0, 0x55]).txPending.isSome) ∧
    ((receiving .standard []).life ≠ .unconfigured ∧ (receiving .standard []).rxPhase ≠ .idle) := by decide

/-- Each hazard, reached. -/
theorem witness_OnlyHazardsFault :
    step ((sending .standard [0xAA, 0xD0, 0x20, 0, 0x55]).withEvents [.issue [1, 0, 0, 0, 0, 0]])
      = .fault .sendOverlap ∧
    step ((sending .standard [0xAA, 0xD0, 0x20, 0, 0x55]).withEvents [.issueHex .data 0 [1]])
      = .fault .sendOverlap ∧
    step ((receiving .standard []).withEvents [.issue [2]]) = .fault .receiveOverlap ∧
    step (State.reset.withEvents [.hostRead .txStatus]) = .fault (.readOutsideWindow .txStatus) :=
  ⟨rfl, rfl, rfl, rfl⟩

/-- A block that waits in its identifier, one byte missing. -/
def inIdent : State :=
  { opened .standard with rxPhase := .ident, rxCnt := 1, rxCfg := 0xC0, rxAcc := 0x20, rxCursor := 3 }

theorem inIdent_inv (es : List Event) : (inIdent.withEvents es).Inv := by
  constructor <;> simp [inIdent, opened, State.reset, State.withEvents, wireSize]

theorem reset_inv (es : List Event) : (State.reset.withEvents es).Inv := by
  constructor <;> simp [State.reset, State.withEvents]

/-- States that meet the invariant, and what each is told next is refused, once for every clause. -/
theorem witness_OnlyLifeCycleRefuses :
    ((inIdent.withEvents [.issue [0, 1]]).Inv ∧
      step (inIdent.withEvents [.issue [0, 1]]) = .refused (.lifeCycle .new)) ∧
    ((State.reset.withEvents [.issue [1, 0, 0, 0, 0, 0]]).Inv ∧
      step (State.reset.withEvents [.issue [1, 0, 0, 0, 0, 0]]) = .refused (.lifeCycle .send)) ∧
    ((State.reset.withEvents [.issueHex .data 0 []]).Inv ∧
      step (State.reset.withEvents [.issueHex .data 0 []]) = .refused (.lifeCycle .send)) ∧
    ((State.reset.withEvents [.issue [2]]).Inv ∧
      step (State.reset.withEvents [.issue [2]]) = .refused (.lifeCycle .receive)) ∧
    ((State.reset.withEvents [.issue [3]]).Inv ∧
      step (State.reset.withEvents [.issue [3]]) = .refused (.lifeCycle .close)) ∧
    ((inIdent.withEvents [.issue [7]]).Inv ∧
      step (inIdent.withEvents [.issue [7]]) = .refused (.undecodable .badSelector)) :=
  ⟨⟨inIdent_inv _, rfl⟩, ⟨reset_inv _, rfl⟩, ⟨reset_inv _, rfl⟩, ⟨reset_inv _, rfl⟩, ⟨reset_inv _, rfl⟩,
    ⟨inIdent_inv _, rfl⟩⟩

/-- The same block takes its last identifier byte. -/
theorem witness_StepKeepsInvariant :
    let s := { inIdent with rxStream := [0] }.withEvents [.readReturns 1]
    s.Inv ∧ ∃ t, step s = .next t ∧ t.rxPhase = .endMark :=
  ⟨by constructor <;> simp [inIdent, opened, State.reset, State.withEvents, wireSize], _, rfl, rfl⟩

theorem witness_AgentsCommute :
    (Event.issue [1, 0, 0, 0, 0, 0]).isTransmit = true ∧ Event.readAll.isReceive = true ∧
    (after (step ((opened .standard).withEvents [.issue [1, 0, 0, 0, 0, 0], .readAll]))).isSome = true := by
  decide

/-- Windows closed and open; the longest payload a frame has (R16). -/
theorem witness_HostSeesRegisters :
    let s := { opened .standard with rxFrameValid := true, rxPayload := List.replicate 15 0 }
    s.rxPayload.length ≤ 15 ∧ s.visible .rxPlen = some (.plen 15) ∧ s.visible .rxStatus = none ∧
      (opened .standard).visible .rxPlen = none := by decide

/-- R37: a short read (two bytes asked for, one there) and one that fills the field. -/
theorem witness_ReadTakesExactly :
    let short := { opened .standard with rxPhase := .ident, rxCnt := 2, rxCfg := 0xC0, rxStream := [0x20] }
    let full := { inIdent with rxStream := [0, 0x55] }
    (short.Inv ∧ short.rxPhase ≠ .idle ∧ min 2 short.rxStream.length < short.rxCnt ∧
      ((short.readReturns 2).rxPhase, (short.readReturns 2).rxCnt) = (.ident, 1)) ∧
    (full.Inv ∧ full.rxPhase ≠ .idle ∧ (full.readReturns 2).rxStream = [0x55]) :=
  ⟨⟨by constructor <;> simp [opened, State.reset, wireSize], by decide, by decide, by decide⟩,
    by constructor <;> simp [inIdent, opened, State.reset, wireSize], by decide, by decide⟩

/-- R13's table at the operations of each row. -/
theorem witness_LifeCycleTable : [Instr.new .standard, .send .data 0 [], .receive, .close].map operationOf
    = [some .new, some .send, some .receive, some .close] := by decide

/-- R152, one case for each clause: over with nothing to come; not over with a blocked RECEIVE (DV12), with a
SEND in its write, with an operation to come; over with a refused one to come, and still over after a step. -/
theorem witness_RunOver :
    let closed := { opened .standard with life := .closed, ctlStatusValid := true }
    (State.reset.events = [] ∧ State.reset.runOver = true) ∧
    ((receiving .standard [0xAA]).rxPhase ≠ .idle ∧ (receiving .standard [0xAA]).runOver = false) ∧
    ((sending .standard [0xAA, 0xC0, 1, 0, 0x55]).txPending.isSome ∧
      (sending .standard [0xAA, 0xC0, 1, 0, 0x55]).runOver = false) ∧
    ((Event.issue [2]).operation = some .receive ∧ closed.life.refuses .receive = false ∧
      (closed.withEvents [.issue [2]]).runOver = false) ∧
    ((closed.withEvents [.arrive [1], .issue [0, 1]]).runOver = true ∧
      (after (step (closed.withEvents [.arrive [1], .issue [0, 1]]))).map (·.runOver) = some true) ∧
    (closed.withEvents [.reset 0, .issue [2]]).runOver = true ∧
    (after (step (closed.withEvents [.reset 0, .issue [2]]))).map (·.runOver) = some true := by decide

end Sys2Proof.Tests
end

section
/-! Proofs of the family 10_state: the life-cycle table (R13, R14), the validity windows the host reads
through (R16 to R18), how SEND and RECEIVE begin (R21, R77, R101), and what the machine refuses. -/

namespace Sys2Proof.Machine

/-! ### The life-cycle table (R13) -/

@[simp] theorem Life.refuses_new_iff (l : Life) : l.refuses .new = true ↔ l ≠ .unconfigured := by
  cases l <;> decide

@[simp] theorem Life.refuses_send_iff (l : Life) : l.refuses .send = true ↔ l = .unconfigured := by
  cases l <;> decide

@[simp] theorem Life.refuses_receive_iff (l : Life) :
    l.refuses .receive = true ↔ l = .unconfigured := by
  cases l <;> decide

@[simp] theorem Life.refuses_close_iff (l : Life) : l.refuses .close = true ↔ l = .unconfigured := by
  cases l <;> decide

variable (s : State)

/-! ### The refusals of each operation (R14) -/

theorem execNew_eq_refused_iff (k : IdKind) (r : Refusal) :
    execNew k s = .refused r ↔ r = .lifeCycle .new ∧ s.life ≠ .unconfigured := by
  unfold execNew
  split <;> simp [*, eq_comm (b := r)]

theorem execSend_eq_refused_iff (ft : FrameType) (id : Word) (p : List Byte) (r : Refusal) :
    execSend ft id p s = .refused r ↔ r = .lifeCycle .send ∧ s.life = .unconfigured := by
  unfold execSend
  split_ifs <;> simp [*, eq_comm (b := r)]

theorem execReceive_eq_refused_iff (r : Refusal) :
    execReceive s = .refused r ↔ r = .lifeCycle .receive ∧ s.life = .unconfigured := by
  unfold execReceive
  split_ifs <;> simp [*, eq_comm (b := r)]

theorem execClose_eq_refused_iff (r : Refusal) :
    execClose s = .refused r ↔ r = .lifeCycle .close ∧ s.life = .unconfigured := by
  unfold execClose
  split <;> simp [*, eq_comm (b := r)]

/-- An operation is refused for the life cycle alone, and exactly where the table of R13 says so. -/
theorem exec_operation_refused_iff {i : Instr} {op : Operation} (h : operationOf i = some op)
    (r : Refusal) :
    exec i s = .refused r ↔ r = .lifeCycle op ∧ s.life.refuses op = true := by
  cases i <;> cases h
  case new k => simpa [exec] using execNew_eq_refused_iff s k r
  case send ft id p => simpa [exec] using execSend_eq_refused_iff s ft id p r
  case receive => simpa [exec] using execReceive_eq_refused_iff s r
  case close => simpa [exec] using execClose_eq_refused_iff s r

/-! ### What the host sees (R16 to R18) -/

theorem State.visible_eq_some_iff (r : HostReg) (v : HostValue) :
    s.visible r = some v ↔ s.holdsValue r = true ∧ v = s.stored r := by
  unfold State.visible
  split_ifs <;> simp [*, eq_comm]

@[simp] theorem State.visible_isSome (r : HostReg) : (s.visible r).isSome = s.holdsValue r := by
  unfold State.visible
  split_ifs <;> simp [*]

@[simp] theorem State.visible_eq_none_iff (r : HostReg) :
    s.visible r = none ↔ s.holdsValue r = false := by
  rw [← s.visible_isSome r, Option.isSome_eq_false_iff, Option.isNone_iff_eq_none]

theorem State.hostRead_of_holdsValue {r : HostReg} (h : s.holdsValue r = true) :
    s.hostRead r = .next s :=
  if_pos h

theorem State.hostRead_of_not_holdsValue {r : HostReg} (h : s.holdsValue r = false) :
    s.hostRead r = .fault (.readOutsideWindow r) :=
  if_neg (by simp [h])

/-- `RX_PLEN` has 4 bits (R16), enough for every payload a frame carries. -/
theorem State.toNat_rxPlen (h : s.rxPayload.length ≤ 15) : s.rxPlen.toNat = s.rxPayload.length := by
  rw [State.rxPlen, BitVec.toNat_ofNat, Nat.mod_eq_of_lt (by omega)]

/-! ### How SEND and RECEIVE begin (R77, R101) -/

/-- With a Converter and no SEND in flight, SEND begins and goes on from its operands. -/
theorem exec_send_of_free (ft : FrameType) (id : Word) (p : List Byte)
    (hl : s.life ≠ .unconfigured) (hp : s.txPending = none) :
    exec (.send ft id p) s = .next (s.beginSend ft id p).submit := by
  simp [exec, execSend, hl, hp]

/-- Operands that ENCODE accepts wait in the write of their frame while the transport is open. -/
theorem State.submit_of_ok {f : List Byte} (hl : s.life ≠ .closed)
    (he : encodeWire s.txFtype s.txId s.txPayload s.idKind = .ok f) :
    s.submit = s.holdBurst f := by
  simp [State.submit, he, hl]

theorem exec_receive_opened (hi : s.rxPhase = .idle) (hl : s.life = .opened) :
    exec .receive s = .next s.beginReceive.startDecode := by
  simp [exec, execReceive, hi, hl]

theorem exec_receive_closed (hi : s.rxPhase = .idle) (hl : s.life = .closed) :
    exec .receive s = .next (s.beginReceive.completeRx .transportError) := by
  simp [exec, execReceive, hi, hl]

/-! ### Frames always run (R34, R101) -/

variable {s}

/-- What passes ENCODE fits the wire: the payload, a Remote frame's empty one, and the identifier. -/
theorem encodeError_none_fits {ft : FrameType} {id : Word} {p : List Byte} {k : IdKind}
    (h : encodeError ft id p.length k = none) :
    p.length ≤ 15 ∧ (ft = .remote → p = []) ∧ id.toNat < 2 ^ (8 * wireSize k) := by
  obtain ⟨hr, hid, hp⟩ := (encodeError_none ft id p.length k).mp h
  refine ⟨hp, by simpa using hr, ?_⟩
  cases k
  case standard => exact Nat.lt_succ_of_le (hid rfl)
  case extended => exact id.isLt

/-- The write of a form whose frame the SEND in flight holds runs (R33). -/
theorem exec_emittedInstr_of_pending {k : IdKind} {ft : FrameType} {id : Word} {p b : List Byte}
    (hk : s.idKind = k) (hw : wellFormed k (emittedInstr k ft id p) = true)
    (hb : encode k (emittedInstr k ft id p) = b) (hp : s.txPending = some b) :
    exec (emittedInstr k ft id p) s = .next ((s.appendTx b).completeTx .ok) := by
  have key : ∀ i, wellFormed k i = true → encode k i = b →
      emitFrame k i s = .next ((s.appendTx b).completeTx .ok) := by
    rintro i hw rfl
    exact if_pos ⟨hw, hk, hp⟩
  cases k <;> cases ft <;> exact key _ hw hb

/-- The transport's completing the write runs the form the burst in flight decodes to. -/
theorem State.completeWrite_of_decodeBurst {b : List Byte} {i : Instr} (hp : s.txPending = some b)
    (hd : decodeBurst b = .ok i) : s.completeWrite = exec i s := by
  simp [State.completeWrite, runDecoded, decode, hp, hd]

/-- In a state that meets the invariant the burst in flight is a frame of the block's kind, so the
transport's completing its write writes it and completes SEND. -/
theorem State.Inv.completeWrite_of_pending (h : s.Inv) {b : List Byte} (hp : s.txPending = some b) :
    s.completeWrite = .next ((s.appendTx b).completeTx .ok) := by
  obtain ⟨hn, rfl⟩ := encodeWire_ok (h.pending_frame b hp)
  obtain ⟨hl, hr, hid⟩ := encodeError_none_fits hn
  obtain ⟨hw, -, he⟩ := emittedInstr_spec s.idKind s.idKind s.txFtype s.txId s.txPayload hl hr hid
  rw [State.completeWrite_of_decodeBurst hp
    (decodeBurst_frame s.idKind s.txFtype s.txId s.txPayload hid hl hr)]
  exact exec_emittedInstr_of_pending rfl hw he hp

theorem State.Inv.completeWrite_next (h : s.Inv) : ∃ t, s.completeWrite = .next t := by
  cases hp : s.txPending with
  | none => exact ⟨s, by simp [State.completeWrite, hp]⟩
  | some b => exact ⟨_, h.completeWrite_of_pending hp⟩

/-- Serving the decoder in full is the walk over all that has arrived: a class that runs on the frame at
the cursor leaves what the walk over that frame leaves. -/
theorem State.serveReads_eq_drain (s : State) : s.serveReads = .next s.drain := by
  unfold State.serveReads
  split_ifs with hs
  · split
    next => rfl
    next bytes hb =>
      split
      next i hd =>
        obtain ⟨cfg, ids, p, rfl, hl, hi, rfl⟩ := decodeReceived_ok hd
        obtain ⟨_, c, _, -, -, ht⟩ := s.frameAtCursor_some hb
        have hst : s.rxStream = wireFrame cfg ids p
            ++ s.rxStream.drop (3 + wireSize s.idKind + configLen c) := by
          rw [ht, List.take_append_drop]
        rw [exec_receivedInstr s cfg ids p _ hs hl hi hst,
          s.drain_frame cfg Config.endMarker ids p _ hs hl hi hst, if_pos rfl]
      next => rfl
  · rfl

/-! ### What is refused (R14) -/

/-- The event has the caller issue this operation: as a message, or as SEND with hex digits. -/
def Event.asks (e : Event) (i : Instr) : Prop :=
  e.issues i ∨ ∃ ft id ds, e = .issueHex ft id ds ∧ i = .send ft id (hexPayload ds)

/-- What decodes on the command port is an operation of R61. -/
theorem operationOf_of_decodeCommand {m : List Byte} {i : Instr} (h : decode .command m = .ok i) :
    ∃ op, operationOf i = some op := by
  rcases decodeCommand_ok h with ⟨k, rfl⟩ | ⟨ft, id, p, rfl⟩ | rfl | rfl <;> exact ⟨_, rfl⟩

theorem Event.asks.operation {e : Event} {i : Instr} (h : e.asks i) :
    ∃ op, operationOf i = some op := by
  rcases h with ⟨m, -, hd⟩ | ⟨ft, id, ds, -, rfl⟩
  · exact operationOf_of_decodeCommand hd
  · exact ⟨.send, rfl⟩

/-- An operation the caller asks for is refused only where the life-cycle table refuses it. -/
theorem Event.asks.refused {e : Event} {i : Instr} {r : Refusal} (h : e.asks i)
    (hr : exec i s = .refused r) :
    ∃ op, operationOf i = some op ∧ r = .lifeCycle op ∧ s.life.refuses op = true := by
  obtain ⟨op, hop⟩ := h.operation
  exact ⟨op, hop, (exec_operation_refused_iff s hop r).mp hr⟩

/-- From a state that meets the invariant an event is refused only as an operation the life-cycle table
refuses, or as a message that is no command. -/
theorem State.Inv.handle_refused (h : s.Inv) {e : Event} {r : Refusal}
    (hr : handle e s = .refused r) :
    (∃ i op, e.asks i ∧ operationOf i = some op ∧ r = .lifeCycle op ∧ s.life.refuses op = true) ∨
    ∃ m d, e = .issue m ∧ decode .command m = .error d ∧ r = .undecodable d := by
  cases e with
  | issue m =>
    simp only [handle, runDecoded] at hr
    split at hr
    next i hd =>
      have ha : (Event.issue m).asks i := .inl ⟨m, rfl, hd⟩
      exact .inl ⟨i, (ha.refused hr).imp fun _ => .intro ha⟩
    next d hd => exact .inr ⟨m, d, rfl, hd, by cases hr; rfl⟩
  | issueHex ft id ds =>
    have ha : (Event.issueHex ft id ds).asks (.send ft id (hexPayload ds)) := .inr ⟨ft, id, ds, rfl, rfl⟩
    exact .inl ⟨_, (ha.refused hr).imp fun _ => .intro ha⟩
  | writeDone =>
    obtain ⟨t, ht⟩ := h.completeWrite_next
    cases ht.symm.trans hr
  | readAll => cases s.serveReads_eq_drain.symm.trans hr
  | hostRead reg =>
    simp only [handle, State.hostRead] at hr
    split_ifs at hr
  | writeFails n => cases hr
  | readReturns n => cases hr
  | readFails => cases hr
  | arrive bytes => cases hr
  | reset n => cases hr

end Sys2Proof.Machine

open Sys2Proof Sys2Proof.Machine

/-- Settles O52: by `State.Inv.handle_refused` the first event asks for an operation or is no command, and
what is refused of an operation is in the table of R13. -/
theorem onlyLifeCycleRefuses : Obligations.OnlyLifeCycleRefuses := by
  intro s r hinv hstep
  cases hev : s.events with
  | nil => cases (step_nil s hev).symm.trans hstep
  | cons e es =>
    rw [step_cons s e es hev] at hstep
    rcases (hinv.withEvents es).handle_refused hstep with
      ⟨i, op, ⟨m, rfl, hd⟩ | ⟨ft, id, ds, rfl, rfl⟩, hop, rfl, hl⟩ | ⟨m, d, rfl, hd, rfl⟩
    · rcases decodeCommand_ok hd with ⟨k, rfl⟩ | ⟨ft, id, p, rfl⟩ | rfl | rfl <;> cases hop
      · exact .inl ⟨rfl, by simpa using hl, m, k, es, rfl, hd⟩
      · exact .inr (.inl ⟨rfl, by simpa using hl, .inl ⟨m, ft, id, p, es, rfl, hd⟩⟩)
      · exact .inr (.inr (.inl ⟨rfl, by simpa using hl, m, es, rfl, hd⟩))
      · exact .inr (.inr (.inr (.inl ⟨rfl, by simpa using hl, m, es, rfl, hd⟩)))
    · cases hop
      exact .inr (.inl ⟨rfl, by simpa using hl, .inr ⟨ft, id, ds, es, rfl⟩⟩)
    · exact .inr (.inr (.inr (.inr ⟨d, m, es, rfl, rfl, hd⟩)))

/-- Settles O21: SEND begins with its operands, which ENCODE accepts, and holds their frame. -/
theorem sendValidWaitsInWrite : Obligations.SendValidWaitsInWrite := by
  intro ft id p f s hl hp he
  rw [exec_send_of_free s ft id p (by simp [hl]) hp,
    (s.beginSend ft id p).submit_of_ok (by simp [hl]) he]
  rfl

/-- Settles O29: RECEIVE starts the decoder on an open Converter and completes at once on a closed one. -/
theorem receiveStarts : Obligations.ReceiveStarts := by
  refine fun s hi => ⟨fun hl => exec_receive_opened s hi hl, fun hl => ?_⟩
  rw [exec_receive_closed s hi hl]
  congr 1
  ext1 <;> simp [hi]

/-- Settles O30: `startDecode` writes all of the working state, so what it held before is gone. -/
theorem noHalfDecodedFrame : Obligations.NoHalfDecodedFrame := by
  intro s cfg cnt acc gathered hi hl
  rw [exec_receive_opened s hi hl]
  exact exec_receive_opened { s with rxCfg := cfg, rxCnt := cnt, rxAcc := acc, rxGathered := gathered } hi hl

/-- Settles O49: a register is visible exactly where `hostRead` finds its window open. -/
theorem hostReadWindow : Obligations.HostReadWindow := by
  refine fun r es s => ⟨fun h => ?_, fun h => ?_⟩
  · exact (s.withEvents es).hostRead_of_holdsValue (by simpa using h)
  · exact (s.withEvents es).hostRead_of_not_holdsValue (by simpa using h)

/-- Settles O54: `visible` register by register. -/
theorem hostSeesRegisters : Obligations.HostSeesRegisters := fun s =>
  ⟨s.visible_eq_some_iff .ctlStatus, s.visible_eq_some_iff .txStatus, s.visible_eq_some_iff .rxStatus,
    s.visible_eq_some_iff .rxFtype, s.visible_eq_some_iff .rxId, s.visible_eq_some_iff .rxPlen,
    s.visible_eq_some_iff .rxPayload, s.toNat_rxPlen, rfl⟩

/-- Settles O57: the four columns of the table, and each operation refused where its column says so. -/
theorem lifeCycleTable : Obligations.LifeCycleTable := by
  refine ⟨fun l => ⟨l.refuses_new_iff, l.refuses_send_iff, l.refuses_receive_iff, l.refuses_close_iff⟩,
    fun i op s h => ?_⟩
  simp [exec_operation_refused_iff s h]
end

section
/-! Proofs of the family 20_memory: one write for each SEND (R34), reads (R36, R37) and arrivals (R32) on
the RX stream. -/

namespace Sys2Proof.Machine

variable (s : State)

/-! ### The write of a SEND (R33, R34) -/

/-- The event of the end of a write is the transport's taking the burst. -/
theorem step_writeDone {es : List Event} (h : s.events = .writeDone :: es) :
    step s = (s.withEvents es).completeWrite :=
  step_cons s .writeDone es h

/-- Operands that ENCODE rejects complete SEND with its error, and no burst is held. -/
theorem State.submit_of_error {e : Status}
    (he : encodeWire s.txFtype s.txId s.txPayload s.idKind = .error e) : s.submit = s.completeTx e := by
  simp [State.submit, he]

/-- The end of a write that is not pending changes nothing. -/
theorem State.completeWrite_of_none (hp : s.txPending = none) : s.completeWrite = .next s := by
  simp [State.completeWrite, hp]

variable {s}

/-- Any burst that ENCODE makes for the block's kind is a frame form that runs when the transport takes it,
whatever the operand registers hold by then. -/
theorem State.completeWrite_of_encodeWire {ft : FrameType} {id : Word} {p b : List Byte}
    (hp : s.txPending = some b) (he : encodeWire ft id p s.idKind = .ok b) :
    s.completeWrite = .next ((s.appendTx b).completeTx .ok) := by
  obtain ⟨hn, rfl⟩ := encodeWire_ok he
  obtain ⟨hl, hr, hid⟩ := encodeError_none_fits hn
  obtain ⟨hw, -, hb⟩ := emittedInstr_spec s.idKind s.idKind ft id p hl hr hid
  rw [State.completeWrite_of_decodeBurst hp (decodeBurst_frame s.idKind ft id p hid hl hr)]
  exact exec_emittedInstr_of_pending rfl hw hb hp

/-! ### One read (R36, R37) -/

/-- What one read hands the decoder: the least of what the transport returns, what is missing and what has
arrived. -/
theorem State.length_readBytes (s : State) (n : Nat) :
    (s.rxStream.take (min n s.rxCnt)).length = min n (min s.rxCnt s.rxStream.length) := by
  rw [List.length_take, Nat.min_assoc]

/-- A read inside a field takes exactly the bytes it hands over. -/
theorem State.Inv.readReturns_field (h : s.Inv) (hi : s.rxPhase ≠ .idle) (n : Nat) :
    (s.readReturns n).rxStream = s.rxStream.drop (min n (min s.rxCnt s.rxStream.length)) ∧
      (s.readReturns n).rxCursor = s.rxCursor + min n (min s.rxCnt s.rxStream.length) ∧
      (min n (min s.rxCnt s.rxStream.length) < s.rxCnt →
        (s.readReturns n).rxPhase = s.rxPhase ∧
          (s.readReturns n).rxCnt = s.rxCnt - min n (min s.rxCnt s.rxStream.length)) := by
  rw [← s.length_readBytes n]
  exact h.feed_field hi _ (by rw [s.length_readBytes n]; omega)

end Sys2Proof.Machine

open Sys2Proof Sys2Proof.Machine

/-- Settles O25: the write that ends is that of the frame SEND holds, which runs; a SEND that ENCODE rejects
holds none. -/
theorem oneSendOneBurst : Obligations.OneSendOneBurst := by
  refine fun ft id p es s hl hp => ⟨fun f he => ?_, fun e he => ?_⟩
  · refine ⟨_, exec_send_of_free _ ft id p (by simp [hl]) hp, ?_⟩
    rw [State.submit_of_ok _ (by simp [hl]) he, step_writeDone _ rfl]
    refine (State.completeWrite_of_encodeWire
      (s := ((s.beginSend ft id p).holdBurst f).withEvents es) rfl he).trans ?_
    congr 1
    ext1 <;> simp [hp]
  · refine ⟨_, exec_send_of_free _ ft id p (by simp [hl]) hp, ?_⟩
    rw [State.submit_of_error _ he, step_writeDone _ rfl, State.completeWrite_of_none _ rfl]
    congr 1
    ext1 <;> simp [hp]

/-- Settles O55: `State.Inv.readReturns_field`; a read that leaves bytes missing is clipped by what has
arrived and by the transport only. -/
theorem readTakesExactly : Obligations.ReadTakesExactly := by
  intro n es s hinv hi
  obtain ⟨hstream, hcursor, hshort⟩ := (hinv.withEvents es).readReturns_field hi n
  refine ⟨_, rfl, hstream, hcursor, fun hlt => ?_⟩
  have hmin : min n (min s.rxCnt s.rxStream.length) = min n s.rxStream.length := by omega
  simpa [hmin, hlt] using hshort

/-- Settles O56: `arrive` writes the RX stream alone. -/
theorem arriveAppends : Obligations.ArriveAppends := fun _ _ _ => rfl
end

section
/-! Proofs of the family 30_encoding: the ConfigByte (R52, R53), the identifier field (R54), the payload
(R56) and the length (R51) of a frame, each read off the frame ENCODE gives. -/

namespace Sys2Proof

/-! ### The ConfigByte (R52, R53) -/

/-- The length takes bits 3:0 alone: the bits above are those of the mark, EXT and REMOTE. -/
theorem getLsbD_configByte_high (k : IdKind) (ft : FrameType) {len i : Nat} (h : len ≤ 15) (hi : 4 ≤ i) :
    (configByte k ft len).getLsbD i = (0b1100_0000#8 ||| extBits k ||| remoteBits ft).getLsbD i := by
  have hbit : len.testBit i = false :=
    Nat.testBit_lt_two_pow (Nat.lt_of_lt_of_le (by omega) (Nat.pow_le_pow_right (by decide) hi))
  have hlen : (BitVec.ofNat 8 len).getLsbD i = false := by simp [BitVec.getLsbD_ofNat, hbit]
  rw [configByte, BitVec.getLsbD_or, hlen, Bool.or_false]

/-- The rows of R60 match the 34 values of R53. -/
theorem emittedForm_isSome_iff (c : Byte) :
    (emittedForm c).isSome = true ↔ (0xC0 ≤ c.toNat ∧ c.toNat ≤ 0xCF) ∨ c = 0xD0#8 ∨
      (0xE0 ≤ c.toNat ∧ c.toNat ≤ 0xEF) ∨ c = 0xF0#8 := by
  revert c
  decide

/-! ### Identifier bytes (R54) -/

theorem getElem?_idBytes {w j : Nat} (id : Word) (h : j < w) : (idBytes w id)[j]? = some (idByte id j) := by
  simp [idBytes, h]

/-- The number that bytes are, as the sum of R54. -/
theorem natOfBytes_eq_sum (bs : List Byte) : natOfBytes bs =
    ((List.range bs.length).map fun j => (bs.getD j 0#8).toNat * 2 ^ (8 * j)).sum := by
  induction bs with
  | nil => rfl
  | cons b bs ih =>
    have hshift : ∀ j, 256 * ((bs.getD j 0#8).toNat * 2 ^ (8 * j))
        = ((b :: bs).getD (j + 1) 0#8).toNat * 2 ^ (8 * (j + 1)) := fun j => by
      rw [List.getD_cons_succ, Nat.mul_succ, Nat.pow_add]; ring
    rw [natOfBytes, ih, ← List.sum_map_mul_left, List.length_cons, List.range_succ_eq_map]
    simp only [hshift]
    simp [Function.comp_def]

/-! ### The fields of a frame (R50) -/

@[simp] theorem getElem?_wireFrame_one (cfg : Byte) (ids p : List Byte) :
    (wireFrame cfg ids p)[1]? = some cfg := rfl

theorem getElem?_wireFrame_payload (cfg : Byte) (ids : List Byte) {p : List Byte} {j : Nat}
    (h : j < p.length) : (wireFrame cfg ids p)[2 + ids.length + j]? = p[j]? := by
  have hj : 2 + ids.length + j = ids.length + j + 2 := by omega
  rw [hj, wireFrame, List.append_assoc]
  simp only [List.getElem?_cons_succ]
  rw [List.getElem?_append_right (by omega), Nat.add_sub_cancel_left, List.getElem?_append_left h]

end Sys2Proof

namespace Sys2Proof.Machine

/-- The ConfigBytes of the frames ENCODE gives are those that a row of R60 matches. -/
theorem encodeWire_configByte_iff (c : Byte) :
    (∃ ft id p k f, encodeWire ft id p k = .ok f ∧ f[1]? = some c) ↔ (emittedForm c).isSome = true := by
  constructor
  · rintro ⟨ft, id, p, k, f, hf, hc⟩
    obtain ⟨hn, rfl⟩ := encodeWire_ok hf
    obtain ⟨hr, -, hl⟩ := (encodeError_none ft id p.length k).mp hn
    obtain rfl : configByte k ft p.length = c := by simpa using hc
    simp [emittedForm_configByte k ft p.length hl hr]
  · intro h
    obtain ⟨⟨k, ft⟩, he⟩ := Option.isSome_iff_exists.mp h
    obtain ⟨hc, hr⟩ := configByte_of_emittedForm c k ft he
    have hn : encodeError ft 0#32 (List.replicate (configLen c) 0#8).length k = none :=
      (encodeError_none ..).mpr (by simpa [configLen_lt c] using hr)
    exact ⟨ft, 0#32, _, k, _, encodeWire_of_none hn, by simp [hc]⟩

/-- Served in full, a RECEIVE at the start of a whole frame returns the frame's payload (R95, R97). -/
theorem State.step_readAll_of_frame {s : State} {cfg : Byte} {ids p rest : List Byte} (es : List Event)
    (hs : s.rxPhase = .start) (hl : p.length = configLen cfg) (hi : ids.length = wireSize s.idKind)
    (hst : s.rxStream = wireFrame cfg ids p ++ rest) :
    step (s.withEvents (.readAll :: es)) = .next
      (((s.withEvents es).consume (3 + wireSize s.idKind + p.length)).atEnd cfg ids p).acceptFrame := by
  have hd := (s.withEvents es).drain_frame cfg Config.endMarker ids p rest hs hl hi hst
  rw [if_pos rfl] at hd
  rw [step_withEvents, handle, State.serveReads_eq_drain, hd]
  rfl

end Sys2Proof.Machine

open Sys2Proof Sys2Proof.Machine

/-- Settles O3: byte by byte for the field, and by `natOfBytes_eq_sum` for the way back. -/
theorem identifierLeastSignificantFirst : Obligations.IdentifierLeastSignificantFirst := by
  refine ⟨fun k id => ⟨length_idBytes _ id, fun j hj => ?_, idOfBytes_idBytes k id⟩, fun bytes h => ?_⟩
  · exact getElem?_idBytes id hj
  · rw [toNat_idOfBytes bytes h, natOfBytes_eq_sum]

/-- Settles O6: where the payload stands in the frame of ENCODE, and what the decoder returns of a frame
that stands on the RX stream. -/
theorem payloadVerbatim : Obligations.PayloadVerbatim := by
  refine ⟨fun ft id p f k hf j hj => ?_, fun cfg ids p rest s hs hst hi hl => ?_⟩
  · obtain ⟨-, rfl⟩ := encodeWire_ok hf
    simpa using getElem?_wireFrame_payload (configByte k ft p.length) (idBytes (wireSize k) id) hj
  · have hst' : s.rxStream = wireFrame cfg ids p ++ rest := by
      simpa [wireFrame, Config.startMarker, Config.endMarker] using hst
    exact ⟨_, State.step_readAll_of_frame [] hs hl hi hst', rfl, rfl⟩

/-- Settles O8: the ConfigBytes produced are those a row of R60 matches, which are the 34 values. -/
theorem producedConfigBytes : Obligations.ProducedConfigBytes := fun c =>
  (encodeWire_configByte_iff c).trans (emittedForm_isSome_iff c)

/-- Settles O1: bits 7:4 do not depend on the length, and the length is read back from bits 3:0. -/
theorem configByteLayout : Obligations.ConfigByteLayout := by
  intro k ft len h
  have hbit : ∀ i, 4 ≤ i → _ := fun i => getLsbD_configByte_high k ft h (i := i)
  rw [hbit 7 (by decide), hbit 6 (by decide), hbit 5 (by decide), hbit 4 (by decide)]
  refine ⟨?_, ?_, ?_, ?_, configLen_configByte k ft len h⟩ <;> cases k <;> cases ft <;> decide

/-- Settles O7: the length of a frame by its fields; what passes ENCODE has a payload of at most 15 bytes. -/
theorem frameLength : Obligations.FrameLength := by
  intro ft id p k f hf
  obtain ⟨hn, rfl⟩ := encodeWire_ok hf
  obtain ⟨hl, -, -⟩ := encodeError_none_fits hn
  rw [Laws.length_wireFrame, length_idBytes]
  refine ⟨rfl, ?_, ?_⟩ <;> rintro rfl <;> simp only [wireSize] <;> omega
end

section
/-! Proofs of the family 40_encode: the size of an identifier (R70), the frame gives its operands back
(R79), and payloads of hex digits (R78). -/

namespace Sys2Proof

/-! ### The fields of a frame (R50) -/

/-- Where the identifier fields have one length, a frame is its ConfigByte, its identifier bytes and its
payload. -/
theorem wireFrame_inj {cfg cfg' : Byte} {ids ids' p p' : List Byte} (hl : ids.length = ids'.length) :
    wireFrame cfg ids p = wireFrame cfg' ids' p' ↔ cfg = cfg' ∧ ids = ids' ∧ p = p' := by
  refine ⟨fun h => ?_, by rintro ⟨rfl, rfl, rfl⟩; rfl⟩
  obtain ⟨hc, hbody⟩ : cfg = cfg' ∧ ids ++ p = ids' ++ p' := by simpa [wireFrame, ← List.append_assoc] using h
  exact ⟨hc, List.append_inj hbody hl⟩

/-- The frames of operands that fit their kind are equal only where the operands are: the type is read back
from the ConfigByte, the identifier from its bytes. -/
theorem operands_eq_of_wireFrame_eq {k : IdKind} {ft ft' : FrameType} {id id' : Word} {p p' : List Byte}
    (hp : p.length ≤ 15) (hp' : p'.length ≤ 15) (hid : id.toNat < 2 ^ (8 * wireSize k))
    (hid' : id'.toNat < 2 ^ (8 * wireSize k))
    (h : wireFrame (configByte k ft p.length) (idBytes (wireSize k) id) p
      = wireFrame (configByte k ft' p'.length) (idBytes (wireSize k) id') p') :
    ft = ft' ∧ id = id' ∧ p = p' := by
  obtain ⟨hcfg, hids, hpay⟩ := (wireFrame_inj (by simp)).mp h
  have hft := congrArg configFtype hcfg
  rw [configFtype_configByte k ft _ hp, configFtype_configByte k ft' _ hp'] at hft
  have hident := congrArg idOfBytes hids
  rw [idOfBytes_idBytes k id hid, idOfBytes_idBytes k id' hid'] at hident
  exact ⟨hft, hident, hpay⟩

end Sys2Proof

namespace Sys2Proof.Machine

/-! ### `ByteSizeHelper` (R70) -/

theorem byteSizeHelper_le_four (v : Word) : byteSizeHelper v ≤ 4 := by
  unfold byteSizeHelper
  split_ifs <;> decide

/-- `n` bytes are enough by the count of `ByteSizeHelper` exactly when they hold the value. -/
theorem byteSizeHelper_le_iff (v : Word) (n : Nat) : byteSizeHelper v ≤ n ↔ v.toNat < 256 ^ n := by
  by_cases hn : 4 ≤ n
  · have hpow : 256 ^ 4 ≤ 256 ^ n := Nat.pow_le_pow_right (by decide) hn
    exact iff_of_true ((byteSizeHelper_le_four v).trans hn) (v.isLt.trans_le hpow)
  · unfold byteSizeHelper
    interval_cases n <;> split_ifs <;> omega

/-! ### Hex payloads (R78) -/

/-- The nibbles of a byte, the high one first. -/
theorem nibbles_append (hi lo : Nibble) :
    [(hi ++ lo : BitVec 8).extractLsb' 4 4, (hi ++ lo : BitVec 8).extractLsb' 0 4] = [hi, lo] := by
  revert hi lo
  decide

@[simp] theorem pairDigits_nil : pairDigits [] = [] := rfl

@[simp] theorem pairDigits_singleton (d : Nibble) : pairDigits [d] = [] := by
  simp [pairDigits]

@[simp] theorem pairDigits_cons_cons (hi lo : Nibble) (ds : List Nibble) :
    pairDigits (hi :: lo :: ds) = (hi ++ lo : BitVec 8) :: pairDigits ds := by
  simp [pairDigits]

theorem length_pairDigits (ds : List Nibble) : (pairDigits ds).length = ds.length / 2 := by
  induction ds using List.twoStepInduction with
  | nil => rfl
  | singleton d => simp
  | cons_cons hi lo ds ih _ =>
    simp only [pairDigits_cons_cons, List.length_cons, ih]
    omega

/-- Digits of even number come back from the bytes they are paired to. -/
theorem nibbles_pairDigits (ds : List Nibble) (heven : ds.length % 2 = 0) :
    (pairDigits ds).flatMap (fun b => [b.extractLsb' 4 4, b.extractLsb' 0 4]) = ds := by
  induction ds using List.twoStepInduction with
  | nil => rfl
  | singleton d => cases heven
  | cons_cons hi lo ds ih _ =>
    have hds : ds.length % 2 = 0 := by simp only [List.length_cons] at heven; omega
    rw [pairDigits_cons_cons, List.flatMap_cons, nibbles_append, ih hds]
    rfl

/-- The half of the number of digits, rounded up: the digit in front makes an odd number even. -/
theorem length_hexPayload (ds : List Nibble) : (hexPayload ds).length = (ds.length + 1) / 2 := by
  rw [hexPayload, length_pairDigits]
  split_ifs
  · rfl
  · omega

theorem nibbles_hexPayload (ds : List Nibble) :
    (hexPayload ds).flatMap (fun b => [b.extractLsb' 4 4, b.extractLsb' 0 4])
      = if ds.length % 2 = 1 then 0#4 :: ds else ds := by
  refine nibbles_pairDigits _ ?_
  split_ifs
  · rw [List.length_cons]; omega
  · omega

end Sys2Proof.Machine

open Sys2Proof Sys2Proof.Machine

/-- Settles O2: by `byteSizeHelper_le_iff` at its own count, and at any other. -/
theorem byteSizeHelperMinimal : Obligations.ByteSizeHelperMinimal :=
  ⟨rfl, fun v => ⟨(byteSizeHelper_le_iff v _).mp le_rfl, fun n => (byteSizeHelper_le_iff v n).mpr⟩⟩

/-- Settles O9: both frames are those of operands that pass ENCODE's checks, so the frame gives the operands
back. -/
theorem encodeInjective : Obligations.EncodeInjective := by
  intro k ft ft' id id' p p' f h h'
  obtain ⟨hn, hf⟩ := encodeWire_ok h
  obtain ⟨hn', hf'⟩ := encodeWire_ok h'
  obtain ⟨hp, -, hid⟩ := encodeError_none_fits hn
  obtain ⟨hp', -, hid'⟩ := encodeError_none_fits hn'
  exact operands_eq_of_wireFrame_eq hp hp' hid hid' (hf.symm.trans hf')

/-- Settles O15: the digits come back from the bytes, and the event hands SEND those bytes. -/
theorem hexPayloadNormalised : Obligations.HexPayloadNormalised :=
  ⟨fun ds => ⟨length_hexPayload ds, nibbles_hexPayload ds⟩,
    fun ft id ds es s => step_withEvents s (.issueHex ft id ds) es⟩
end

section
/-! Proofs of the family 41_decode: the walk is `decode_fn` (R100), the round trip (R103), the bits the
decoder ignores (R59, R104), how `RX_PHASE` moves (R102), and reads with nothing to return (R101). -/

namespace Sys2Proof

/-! ### The ConfigByte (R52, R93) -/

theorem extractMark_of_getLsbD {c : Byte} (h7 : c.getLsbD 7 = true) (h6 : c.getLsbD 6 = true) :
    c.extractLsb' 6 2 = 0b11#2 := by
  revert c
  decide

/-- The decoder reads bits 4:0 of a ConfigByte only. -/
theorem configFields_congr {c c' : Byte} (h : c.extractLsb' 0 5 = c'.extractLsb' 0 5) :
    configLen c = configLen c' ∧ configFtype c = configFtype c' := by
  have hbit : ∀ i, i < 5 → c.getLsbD i = c'.getLsbD i := fun i hi => by
    simpa [BitVec.getLsbD_extractLsb', hi] using congrArg (·.getLsbD i) h
  constructor
  · refine congrArg BitVec.toNat (BitVec.eq_of_getLsbD_eq fun i hi => ?_)
    simpa [BitVec.getLsbD_extractLsb', hi] using hbit i (by omega)
  · rw [configFtype, configFtype, hbit 4 (by decide)]

end Sys2Proof

namespace Sys2Proof.Machine

/-! ### `decode_fn` and the walk (R98, R100) -/

/-- What can stand on the stream, and what `decode_fn` says of it: part of a frame, a byte that starts none,
or a frame whose end byte is `e`. -/
theorem decodeFn_cases (k : IdKind) (bytes : List Byte) :
    (decodeFn k bytes = .blocked bytes.length ∧ (bytes = [] ∨ bytes = [Config.startMarker] ∨
      ∃ cfg body, bytes = Config.startMarker :: cfg :: body ∧
        body.length < wireSize k + configLen cfg + 1)) ∨
    (∃ b rest, bytes = b :: rest ∧ b ≠ Config.startMarker ∧ decodeFn k bytes = .badStart 1) ∨
    ∃ cfg e ids p rest, bytes = Config.startMarker :: cfg :: (ids ++ p ++ [e]) ++ rest ∧
      p.length = configLen cfg ∧ ids.length = wireSize k ∧
      decodeFn k bytes =
        if e = Config.endMarker then .frame (configFtype cfg) (idOfBytes ids) p (3 + wireSize k + p.length)
        else .badEnd (3 + wireSize k + p.length) := by
  match bytes with
  | [] => exact .inl ⟨rfl, .inl rfl⟩
  | m :: rest =>
    by_cases hm : m = Config.startMarker
    case neg => exact .inr (.inl ⟨m, rest, rfl, hm, if_pos hm⟩)
    subst hm
    match rest with
    | [] => exact .inl ⟨rfl, .inr (.inl rfl)⟩
    | cfg :: body =>
      by_cases hl : body.length < wireSize k + configLen cfg + 1
      · exact .inl ⟨by simp [decodeFn, hl], .inr (.inr ⟨cfg, body, rfl, hl⟩)⟩
      · have hlen : ((body.drop (wireSize k)).take (configLen cfg)).length = configLen cfg := by simp; omega
        have hbody := body_fields (wireSize k) (configLen cfg) body (by omega)
        refine .inr (.inr ⟨cfg, _, _, _, _, congrArg (_ :: _ :: ·) hbody, hlen, by simp; omega, ?_⟩)
        rw [hlen]
        simp only [decodeFn, ne_eq, not_true_eq_false, if_false, hl, ite_not]

variable (s : State)

theorem State.drain_of_badStart {b : Byte} {rest : List Byte} (hs : s.rxPhase = .start)
    (hst : s.rxStream = b :: rest) (hb : b ≠ Config.startMarker) :
    s.drain = (s.consume 1).completeRx .badStartByte := by
  rw [State.drain, hst, s.feed_cons b rest (by simp [hs]), s.acceptByte_badStart b hs hb,
    State.feed_idle _ _ rfl]

/-- R98: a stream that `decode_fn` says is part of a frame leaves RECEIVE in flight. -/
theorem State.drain_inFlight_of_partial (hs : s.rxPhase = .start)
    (h : s.rxStream = [] ∨ s.rxStream = [Config.startMarker] ∨
      ∃ cfg body, s.rxStream = Config.startMarker :: cfg :: body ∧
        body.length < wireSize s.idKind + configLen cfg + 1) :
    s.drain.rxPhase ≠ .idle := by
  rcases h with h | h | ⟨cfg, body, h, hl⟩ <;> rw [State.drain, h]
  · simp [State.feed, hs]
  · simp [hs, s.acceptByte_start hs, State.feed]
  · exact s.feed_partial cfg body hs hl

/-- A walk that leaves RECEIVE in flight took all that had arrived, and opened no window. -/
theorem State.drain_of_inFlight (h : s.drain.rxPhase ≠ .idle) :
    s.drain.rxStream = [] ∧ s.drain.rxCursor = s.rxCursor + s.rxStream.length ∧
      s.drain.rxStatusValid = s.rxStatusValid ∧ s.drain.rxFrameValid = s.rxFrameValid := by
  obtain ⟨m, -, hstream, hcursor, -, hall⟩ := s.feed_consumes s.rxStream
  obtain rfl := hall h
  exact ⟨hstream.trans List.drop_length, hcursor, s.feed_inFlight _ h⟩

/-! ### The ConfigByte of a frame that ENCODE gives (R52, R53) -/

/-- It has the marks, the EXT bit of its kind, and no length where it says Remote. -/
theorem encodeWire_configByte_layout {ft : FrameType} {id : Word} {p f : List Byte} {k : IdKind} {cfg : Byte}
    (hf : encodeWire ft id p k = .ok f) (hc : f[1]? = some cfg) :
    cfg.extractLsb' 6 2 = 0b11#2 ∧ (cfg.getLsbD 5 = true ↔ k = .extended) ∧
      (cfg.getLsbD 4 = true → cfg.extractLsb' 0 4 = 0#4) := by
  obtain ⟨hn, rfl⟩ := encodeWire_ok hf
  obtain ⟨hp, hr, -⟩ := encodeError_none_fits hn
  obtain rfl : configByte k ft p.length = cfg := by simpa using hc
  obtain ⟨h7, h6, hext, hrem, hlen⟩ := configByteLayout k ft p.length hp
  refine ⟨extractMark_of_getLsbD h7 h6, hext, fun h4 => BitVec.eq_of_toNat_eq ?_⟩
  rw [hlen, hr (hrem.mp h4)]
  rfl

/-! ### The bits the decoder ignores (R59, R104) -/

/-- The state with another ConfigByte latched. -/
def State.withCfg (cfg : Byte) (s : State) : State :=
  { s with rxCfg := cfg }

theorem State.acceptByte_idle (b : Byte) (hp : s.rxPhase = .idle) : s.acceptByte b = s.consume 1 := by
  simp [State.acceptByte, State.transition, hp]

theorem State.afterIdent_withCfg {c : Byte} (h : configLen c = configLen s.rxCfg) :
    (s.withCfg c).afterIdent = s.afterIdent.withCfg c := by
  simp only [State.afterIdent, State.withCfg, h]
  split_ifs <;> rfl

theorem State.acceptFrame_withCfg {c : Byte} (h : configFtype c = configFtype s.rxCfg) :
    (s.withCfg c).acceptFrame = s.acceptFrame.withCfg c := by
  simp only [State.acceptFrame, State.withCfg, h]
  rfl

@[simp] theorem State.afterIdent_rxCfg : s.afterIdent.rxCfg = s.rxCfg := by
  unfold State.afterIdent
  split_ifs <;> rfl

/-- One byte leads two states whose latches agree in bits 4:0 to two such states. -/
theorem State.acceptByte_withCfg (b c : Byte) (h : c.extractLsb' 0 5 = s.rxCfg.extractLsb' 0 5) :
    ∃ c', c'.extractLsb' 0 5 = (s.acceptByte b).rxCfg.extractLsb' 0 5 ∧
      (s.withCfg c).acceptByte b = (s.acceptByte b).withCfg c' := by
  obtain ⟨hlen, hft⟩ := configFields_congr h
  cases hp : s.rxPhase with
  | idle =>
    rw [s.acceptByte_idle b hp, (s.withCfg c).acceptByte_idle b hp]
    exact ⟨c, h, rfl⟩
  | start =>
    by_cases hb : b = Config.startMarker
    · subst hb
      rw [s.acceptByte_start hp, (s.withCfg c).acceptByte_start hp]
      exact ⟨c, h, rfl⟩
    · rw [s.acceptByte_badStart b hp hb, (s.withCfg c).acceptByte_badStart b hp hb]
      exact ⟨c, h, rfl⟩
  | config =>
    rw [s.acceptByte_config b hp, (s.withCfg c).acceptByte_config b hp]
    exact ⟨b, rfl, rfl⟩
  | ident =>
    by_cases hn : s.rxCnt ≤ 1
    · rw [s.acceptByte_identLast b hp hn, (s.withCfg c).acceptByte_identLast b hp hn]
      exact ⟨c, by rw [State.afterIdent_rxCfg]; exact h,
        State.afterIdent_withCfg ((s.consume 1).gatherIdent b) hlen⟩
    · rw [s.acceptByte_ident b hp (by omega), (s.withCfg c).acceptByte_ident b hp (Nat.lt_of_not_le hn)]
      exact ⟨c, h, rfl⟩
  | payload =>
    by_cases hn : s.rxCnt ≤ 1
    · rw [s.acceptByte_payloadLast b hp hn, (s.withCfg c).acceptByte_payloadLast b hp hn]
      exact ⟨c, h, rfl⟩
    · rw [s.acceptByte_payload b hp (by omega), (s.withCfg c).acceptByte_payload b hp (Nat.lt_of_not_le hn)]
      exact ⟨c, h, rfl⟩
  | endMark =>
    rw [s.acceptByte_end b hp, (s.withCfg c).acceptByte_end b hp]
    split_ifs
    · exact ⟨c, h, State.acceptFrame_withCfg (s.consume 1) hft⟩
    · exact ⟨c, h, rfl⟩

/-- So do any bytes: what the walk leaves differs in the latch at most. -/
theorem State.feed_withCfg (bs : List Byte) (c : Byte) (h : c.extractLsb' 0 5 = s.rxCfg.extractLsb' 0 5) :
    ∃ c', State.feed bs (s.withCfg c) = (State.feed bs s).withCfg c' := by
  induction bs generalizing s c with
  | nil => exact ⟨c, rfl⟩
  | cons b bs ih =>
    by_cases hi : s.rxPhase = .idle
    · exact ⟨c, by rw [s.feed_idle _ hi, (s.withCfg c).feed_idle _ hi]⟩
    · obtain ⟨c', hc', hb⟩ := s.acceptByte_withCfg b c h
      rw [s.feed_cons b bs hi, (s.withCfg c).feed_cons b bs hi, hb]
      exact ih _ c' hc'

/-- From `CONFIG` the ConfigByte is latched and the walk goes on over what is behind it. -/
theorem State.drain_of_config {c : Byte} {rest : List Byte} (hp : s.rxPhase = .config)
    (hst : s.rxStream = c :: rest) :
    s.drain = State.feed rest
      (((s.consume 1).latch c 0#32 []).enterPhase .ident (wireSize s.idKind)) := by
  rw [State.drain, hst, s.feed_cons c rest (by simp [hp]), s.acceptByte_config c hp]

/-! ### How `RX_PHASE` moves (R102) -/

/-- From `p` the decoder's phase may go to `q`: it stays, returns to `IDLE`, or moves to a later one. -/
def Phase.MayMove (p q : Phase) : Prop :=
  q = p ∨ q = .idle ∨ p.code.toNat < q.code.toNat

theorem Phase.MayMove.trans {p q r : Phase} (h : p.MayMove q) (hq : q ≠ .idle) (h' : q.MayMove r) :
    p.MayMove r := by
  rcases h with rfl | h | h
  · exact h'
  · exact absurd h hq
  · rcases h' with rfl | h' | h'
    · exact .inr (.inr h)
    · exact .inr (.inl h')
    · exact .inr (.inr (h.trans h'))

theorem State.transition_mayMove (b : Byte) : s.rxPhase.MayMove (s.transition b).rxPhase := by
  rcases s.transition_cases b with ⟨hp, ht⟩ | ⟨hp, -, ht⟩ | ⟨hp, -, ht⟩ | ⟨hp, ht⟩ | ⟨hp, -, -, ht⟩ |
    ⟨hp, -, -, ht⟩ | ⟨hp, -, ht⟩ | ⟨hp, -, ht⟩ | ⟨hp, -, ht⟩ | ⟨hp, -, ht⟩ | ⟨hp, -, ht⟩ <;>
    rw [ht] <;> simp [Phase.MayMove, hp, Phase.code, State.acceptFrame]

theorem State.feed_mayMove (bs : List Byte) : s.rxPhase.MayMove (State.feed bs s).rxPhase := by
  induction bs generalizing s with
  | nil => exact .inl rfl
  | cons b bs ih =>
    by_cases hi : s.rxPhase = .idle
    · rw [s.feed_idle _ hi]; exact .inl rfl
    · rw [s.feed_cons b bs hi]
      by_cases hb : (s.acceptByte b).rxPhase = .idle
      · rw [State.feed_idle _ _ hb]; exact .inr (.inl hb)
      · exact ((s.consume 1).transition_mayMove b).trans hb (ih _)

@[simp] theorem State.submit_rxPhase : s.submit.rxPhase = s.rxPhase := by
  rcases s.submit_cases with ⟨e, -, h⟩ | ⟨f, -, -, h⟩ | ⟨f, -, -, h⟩ <;> rw [h] <;> rfl

@[simp] theorem State.deliver_rxPhase (n : Nat) (f : List Byte) : (s.deliver n f).rxPhase = s.rxPhase := by
  rw [s.deliver_eq]

@[simp] theorem State.abortReceive_rxPhase : s.abortReceive.rxPhase = .idle := by
  rcases s.abortReceive_cases with ⟨hi, h⟩ | ⟨-, h⟩ <;> rw [h]
  · exact hi
  · rfl

/-- Event `e` moves the decoder's phase forward or back to `IDLE`, and out of `IDLE` only as a RECEIVE that
starts. -/
structure State.PhaseMoves (s : State) (e : Event) (t : State) : Prop where
  mayMove : s.rxPhase.MayMove t.rxPhase
  leavesIdle : s.rxPhase = .idle → t.rxPhase ≠ .idle →
    t.rxPhase = .start ∧ s.life = .opened ∧ e.issues .receive

variable {s} {t : State} {e : Event}

theorem State.PhaseMoves.of_eq (h : t.rxPhase = s.rxPhase) : s.PhaseMoves e t :=
  ⟨.inl h, fun hi hne => absurd (h.trans hi) hne⟩

theorem State.PhaseMoves.of_idle (h : t.rxPhase = .idle) : s.PhaseMoves e t :=
  ⟨.inr (.inl h), fun _ hne => absurd h hne⟩

theorem State.PhaseMoves.feed (bs : List Byte) : s.PhaseMoves e (State.feed bs s) :=
  ⟨s.feed_mayMove bs, fun hi hne => absurd (by rw [s.feed_idle _ hi]; exact hi) hne⟩

/-- Each way an event leads to a next state leaves the phase, returns it to `IDLE`, feeds the decoder, or
starts RECEIVE. -/
theorem State.Moves.phaseMoves (h : s.Moves e t) : s.PhaseMoves e t := by
  cases h with
  | new => exact .of_eq rfl
  | send => exact .of_eq (by simp)
  | receiveClosed => exact .of_idle rfl
  | receiveOpen _ he hl hp => exact ⟨.inr (.inr (by simp [hp, Phase.code])), fun _ _ => ⟨rfl, hl, he⟩⟩
  | closeOpen => exact .of_idle (by simp)
  | closeClosed => exact .of_eq rfl
  | noWrite => exact .of_eq rfl
  | write => exact .of_eq rfl
  | noFailure => exact .of_eq rfl
  | writeFails => exact .of_eq (by simp)
  | readReturns => exact .feed _
  | readFails => exact .of_idle (by simp)
  | drain => exact .feed _
  | frame => exact .of_idle rfl
  | arrive => exact .of_eq rfl
  | hostRead => exact .of_eq rfl
  | reset => exact .of_idle rfl

end Sys2Proof.Machine

open Sys2Proof Sys2Proof.Machine

/-- Settles O41: in each case the decoder is handed no byte, and feeding none changes nothing. -/
theorem emptyReadIsAWait : Obligations.EmptyReadIsAWait := by
  refine fun n es s => ⟨fun h => ?_, fun h => ?_⟩
  · rw [step_withEvents, handle, State.serveReads_eq_drain, State.drain, State.withEvents_rxStream, h]
    rfl
  · have hnone : (s.withEvents es).rxStream.take (min n (s.withEvents es).rxCnt) = [] := by
      rcases h with h | rfl
      · simp [h]
      · simp
    rw [step_withEvents, handle, State.readReturns, hnone]
    rfl

/-- Settles O43: by `State.Moves.phaseMoves`, one case for each way an event leads to a next state. -/
theorem phaseMovesForward : Obligations.PhaseMovesForward := by
  intro s t h
  rcases step_next s h with ⟨-, rfl⟩ | ⟨e, es, hev, hm⟩
  · exact ⟨.inl rfl, fun hi hne => absurd hi hne⟩
  · obtain ⟨hmove, hstart⟩ := hm.phaseMoves
    refine ⟨hmove, fun hi hne => ?_⟩
    obtain ⟨ht, hl, m, rfl, hd⟩ := hstart hi hne
    exact ⟨ht, hl, m, es, hev, hd⟩

/-- Settles O38: once latched, the two ConfigBytes agree in bits 4:0, so by `State.feed_withCfg` the walks
over what follows differ in the latch alone. -/
theorem ignoredConfigBitsNoEffect : Obligations.IgnoredConfigBitsNoEffect := by
  intro c c' rest s hp h
  obtain ⟨c'', hfeed⟩ := State.feed_withCfg ((({ s with rxStream := c' :: rest } : State).consume 1).latch c'
    0#32 [] |>.enterPhase .ident (wireSize s.idKind)) rest c h
  have hbut := congrArg (State.withCfg 0#8) hfeed
  rw [State.drain_of_config (s := { s with rxStream := c :: rest }) hp rfl,
    State.drain_of_config (s := { s with rxStream := c' :: rest }) hp rfl]
  exact hbut

/-- Settles O33: the three cases of `decodeFn_cases`, each with what the walk over such a stream leaves. -/
theorem walkIsDecodeFn : Obligations.WalkIsDecodeFn := by
  intro s hs
  refine ⟨?_, ?_⟩
  · have hout := s.drain_sameOutside
    exact State.ext hout.life hout.idKind hout.txFtype hout.txId hout.txPayload hout.txStatus
      hout.txStatusValid rfl rfl rfl rfl rfl rfl hout.ctlStatus hout.ctlStatusValid rfl rfl rfl rfl rfl
      hout.txPending hout.txBursts rfl rfl hout.closeStrobes hout.events
  · rcases decodeFn_cases s.idKind s.rxStream with ⟨hd, hpart⟩ | ⟨b, rest, hst, hb, hd⟩ |
      ⟨cfg, e, ids, p, rest, hst, hl, hi, hd⟩ <;> rw [hd]
    · have hfly := s.drain_inFlight_of_partial hs hpart
      obtain ⟨hstream, hcursor, hwindows⟩ := s.drain_of_inFlight hfly
      exact ⟨rfl, hstream, hcursor, hfly, hwindows⟩
    · rw [s.drain_of_badStart hs hst hb]
      exact ⟨rfl, rfl, rfl, rfl, rfl, rfl⟩
    · rw [s.drain_frame cfg e ids p rest hs hl hi hst]
      by_cases he : e = Config.endMarker
      · simp only [if_pos he]
        exact ⟨rfl, rfl, rfl, rfl, rfl, rfl, rfl, rfl, rfl⟩
      · simp only [if_neg he]
        exact ⟨rfl, rfl, rfl, rfl, rfl, rfl⟩

/-- Settles O39: the walk over the frame ENCODE gives accepts it, with the fields its ConfigByte and identifier
bytes give back; a frame with four identifier bytes shows that the other kind does not; and the ConfigByte of a
frame ENCODE gives has the layout of R52. -/
theorem roundTrip : Obligations.RoundTrip := by
  refine ⟨fun ft id p f rest es s hs hf hst => ?_, ?_, fun cfg ft id p f k hcfg hf hc => ?_⟩
  · obtain ⟨hn, rfl⟩ := encodeWire_ok hf
    obtain ⟨hp, -, hid⟩ := encodeError_none_fits hn
    refine ⟨_, State.step_readAll_of_frame es hs (configLen_configByte s.idKind ft _ hp).symm
      (length_idBytes _ id) hst, ?_⟩
    rw [Laws.length_wireFrame, length_idBytes]
    have hdrop : s.rxStream.drop (3 + wireSize s.idKind + p.length) = rest := by
      rw [hst, List.drop_left' (by rw [Laws.length_wireFrame, length_idBytes])]
    ext1 <;> simp [State.acceptFrame, State.atEnd, hdrop, configFtype_configByte _ _ _ hp,
      idOfBytes_idBytes _ _ hid]
  · exact ⟨.data, 0x12345678#32, [], _, rfl, by decide⟩
  · obtain ⟨hmark, hkind, hremote⟩ := encodeWire_configByte_layout hf hc
    rcases hcfg with h | h | ⟨h4, h⟩
    · exact h hmark
    · exact h hkind
    · exact h (hremote h4)
end

section
/-! Proof of the family 60_exceptions: an event of the encoder and one of the decoder commute (R135). Each
agent has registers of its own and reads no others but `LIFE` and `ID_KIND`, which neither writes. -/

namespace Sys2Proof.Machine

/-! ### The registers of an agent (R134) -/

/-- The two agents that can be at work at the same time. -/
inductive Agent where
  | encoder
  | decoder

/-- The agent that is not this one. -/
def Agent.other : Agent → Agent
  | .encoder => .decoder
  | .decoder => .encoder

/-- `x` with an agent's registers, and its stream of the transport, as they are in `s`. -/
def Agent.put : Agent → State → State → State
  | .encoder, x, s => { x with
      txFtype := s.txFtype, txId := s.txId, txPayload := s.txPayload, txStatus := s.txStatus
      txStatusValid := s.txStatusValid, txPending := s.txPending, txBursts := s.txBursts }
  | .decoder, x, s => { x with
      rxFtype := s.rxFtype, rxId := s.rxId, rxPayload := s.rxPayload, rxFrameValid := s.rxFrameValid
      rxStatus := s.rxStatus, rxStatusValid := s.rxStatusValid, rxPhase := s.rxPhase, rxCfg := s.rxCfg
      rxCnt := s.rxCnt, rxAcc := s.rxAcc, rxGathered := s.rxGathered, rxStream := s.rxStream
      rxCursor := s.rxCursor }

/-- `f` is the business of agent `p` alone: in any other state with the same registers of `p` and the same
`LIFE` and `ID_KIND` it does the same to the registers of `p`, and leaves all others as they are there. -/
def Agent.Owns (p : Agent) (f : State → Host.Outcome State Fault Refusal) : Prop :=
  ∀ ⦃s u : State⦄, f s = .next u → ∀ x : State, x.life = s.life → x.idKind = s.idKind →
    f (p.put x s) = .next (p.put x u)

@[simp] theorem Agent.put_self (p : Agent) (s : State) : p.put s s = s := by
  cases p <;> rfl

@[simp] theorem Agent.put_events (p : Agent) (x s : State) : (p.put x s).events = x.events := by
  cases p <;> rfl

/-- An update that `put` passes through is the agent's own. -/
theorem Agent.owns_next {p : Agent} {g : State → State}
    (hg : ∀ x s : State, x.idKind = s.idKind → g (p.put x s) = p.put x (g s)) :
    p.Owns fun s => .next (g s) := by
  rintro s _ ⟨⟩ x _ hk
  exact congrArg _ (hg x s hk)

/-- What an agent owns changes the agent's registers alone. -/
theorem Agent.Owns.exists_put {p : Agent} {f : State → Host.Outcome State Fault Refusal} {s u : State}
    (hf : p.Owns f) (h : f s = .next u) : ∃ w, u = p.put s w := by
  have hput := hf h s rfl rfl
  rw [Agent.put_self, h] at hput
  exact ⟨u, by simpa using hput⟩

/-- An event that one agent owns and an event that the other owns can change places: each finds its agent's
registers as they were, whether the other has happened or not. -/
theorem Agent.Owns.step_swap {p : Agent} {a b : Event} (ha : p.Owns (handle a))
    (hb : p.other.Owns (handle b)) {es : List Event} {s t : State}
    (h : ∃ u, step (s.withEvents (a :: b :: es)) = .next u ∧ step u = .next t) :
    ∃ v, step (s.withEvents (b :: a :: es)) = .next v ∧ step v = .next t := by
  obtain ⟨u, hu, ht⟩ := h
  rw [step_withEvents] at hu
  obtain ⟨w, rfl⟩ := ha.exists_put hu
  rw [step_cons _ b es (by simp)] at ht
  obtain ⟨r, rfl⟩ := hb.exists_put ht
  refine ⟨p.other.put (s.withEvents (a :: es)) r, ?_, ?_⟩
  · have hb' := hb ht (s.withEvents (a :: es))
    cases p <;> exact hb' rfl rfl
  · rw [step_cons _ a es (by simp)]
    have ha' := ha hu (p.other.put (s.withEvents es) r)
    cases p <;> exact ha' rfl rfl

/-! ### The encoder's events (R77, R33, R35) -/

theorem State.submit_put {s x : State} (hl : x.life = s.life) (hk : x.idKind = s.idKind) :
    (Agent.encoder.put x s).submit = Agent.encoder.put x s.submit := by
  simp only [State.submit, Agent.put, hl, hk]
  split
  · rfl
  · split_ifs <;> rfl

theorem encoder_owns_execSend (ft : FrameType) (id : Word) (p : List Byte) :
    Agent.encoder.Owns (execSend ft id p) := by
  intro s u h x hl hk
  unfold execSend at h
  split_ifs at h with hun hpend
  cases h
  have hun' : ¬x.life = .unconfigured := by rwa [hl]
  refine (if_neg hun').trans ((if_neg hpend).trans (congrArg _ ?_))
  exact State.submit_put (s := s.beginSend ft id p) hl hk

theorem encoder_owns_emitFrame (k : IdKind) (i : Instr) : Agent.encoder.Owns (emitFrame k i) := by
  intro s u h x hl hk
  rcases emitFrame_cases s k i with ⟨hw, hkind, hp, he⟩ | ⟨-, he⟩ <;> cases he.symm.trans h
  exact if_pos ⟨hw, hk.trans hkind, hp⟩

/-- What a burst decodes to runs as the write of a frame form. -/
theorem exec_of_decodeBurst {b : List Byte} {i : Instr} (h : decode .txBurst b = .ok i) :
    ∃ k, exec i = emitFrame k i := by
  obtain ⟨k, ft, id, p, rfl, -⟩ := decodeBurst_ok h
  exact ⟨k, by cases k <;> cases ft <;> rfl⟩

theorem encoder_owns_completeWrite : Agent.encoder.Owns State.completeWrite := by
  intro s u h x hl hk
  cases hp : s.txPending with
  | none =>
    rw [s.completeWrite_of_none hp] at h
    cases h
    exact State.completeWrite_of_none _ hp
  | some b =>
    cases hd : decode .txBurst b with
    | error r => simp [State.completeWrite, runDecoded, hp, hd] at h
    | ok i =>
      obtain ⟨k, hi⟩ := exec_of_decodeBurst hd
      rw [State.completeWrite_of_decodeBurst hp hd, hi] at h
      refine (State.completeWrite_of_decodeBurst (s := Agent.encoder.put x s) hp hd).trans ?_
      rw [hi]
      exact encoder_owns_emitFrame k i h x hl hk

theorem State.failWrite_put (n : Nat) (x s : State) :
    (Agent.encoder.put x s).failWrite n = Agent.encoder.put x (s.failWrite n) := by
  cases hp : s.txPending <;> simp [State.failWrite, Agent.put, hp, State.deliver_eq, State.completeTx]

/-! ### The decoder's events (R101, R36, R39, R32) -/

@[simp] theorem Agent.put_rxPhase (x s : State) : (Agent.decoder.put x s).rxPhase = s.rxPhase := rfl

@[simp] theorem Agent.put_rxCnt (x s : State) : (Agent.decoder.put x s).rxCnt = s.rxCnt := rfl

@[simp] theorem Agent.put_rxCfg (x s : State) : (Agent.decoder.put x s).rxCfg = s.rxCfg := rfl

theorem State.afterIdent_put (x s : State) :
    (Agent.decoder.put x s).afterIdent = Agent.decoder.put x s.afterIdent := by
  rw [State.afterIdent, State.afterIdent, apply_ite (Agent.decoder.put x)]
  rfl

theorem State.gatherIdent_put (b : Byte) {x s : State} (hk : x.idKind = s.idKind) :
    (Agent.decoder.put x s).gatherIdent b = Agent.decoder.put x (s.gatherIdent b) := by
  simp only [State.gatherIdent, Agent.put, hk]
  rfl

theorem State.transition_put (b : Byte) {x s : State} (hk : x.idKind = s.idKind) :
    (Agent.decoder.put x s).transition b = Agent.decoder.put x (s.transition b) := by
  cases hp : s.rxPhase <;>
    simp only [State.transition, Agent.put_rxPhase, Agent.put_rxCnt, hp, apply_ite (Agent.decoder.put x)]
  case start => rfl
  case config =>
    simp only [Agent.put, hk]
    rfl
  case ident =>
    rw [State.gatherIdent_put b hk, State.afterIdent_put]
    rfl
  case payload => rfl
  case endMark => rfl

theorem State.acceptByte_put (b : Byte) {x s : State} (hk : x.idKind = s.idKind) :
    (Agent.decoder.put x s).acceptByte b = Agent.decoder.put x (s.acceptByte b) :=
  State.transition_put (s := s.consume 1) b hk

theorem State.feed_put (bs : List Byte) {s x : State} (hk : x.idKind = s.idKind) :
    State.feed bs (Agent.decoder.put x s) = Agent.decoder.put x (State.feed bs s) := by
  induction bs generalizing s with
  | nil => rfl
  | cons b bs ih =>
    by_cases hi : s.rxPhase = .idle
    · rw [s.feed_idle _ hi]
      exact State.feed_idle _ _ hi
    · have hb := State.acceptByte_put b hk
      rw [s.feed_cons b bs hi, State.feed_cons (Agent.decoder.put x s) b bs hi, hb]
      exact ih (hk.trans (s.acceptByte_sameOutside b).idKind.symm)

theorem State.abortReceive_put (x s : State) :
    (Agent.decoder.put x s).abortReceive = Agent.decoder.put x s.abortReceive := by
  rcases s.abortReceive_cases with ⟨hi, h⟩ | ⟨hi, h⟩ <;> rw [h]
  · exact if_pos hi
  · exact if_neg hi

theorem decoder_owns_execReceive : Agent.decoder.Owns execReceive := by
  intro s u h x hl _
  have hlife : (Agent.decoder.put x s).life = s.life := hl
  simp only [execReceive, hlife, Agent.put_rxPhase] at h ⊢
  split_ifs at h with hun hbusy hclosed <;> cases h
  · simp only [if_neg hun, if_neg hbusy, if_pos hclosed]
    rfl
  · simp only [if_neg hun, if_neg hbusy, if_neg hclosed]
    rfl

/-! ### The events of the two agents (R134) -/

theorem Event.isTransmit.encoder_owns_handle {e : Event} (he : e.isTransmit = true) :
    Agent.encoder.Owns (handle e) := by
  cases e with
  | issue m =>
    simp only [Event.isTransmit] at he
    split at he
    next ft id p hd =>
      have hsend : handle (.issue m) = execSend ft id p := funext fun s => runDecoded_ok s hd
      rw [hsend]
      exact encoder_owns_execSend ft id p
    next => cases he
  | issueHex ft id ds => exact encoder_owns_execSend ft id (hexPayload ds)
  | writeDone => exact encoder_owns_completeWrite
  | writeFails n => exact Agent.owns_next fun x s _ => State.failWrite_put n x s
  | _ => cases he

theorem Event.isReceive.decoder_owns_handle {e : Event} (he : e.isReceive = true) :
    Agent.decoder.Owns (handle e) := by
  cases e with
  | issue m =>
    simp only [Event.isReceive] at he
    split at he
    next hd =>
      have hreceive : handle (.issue m) = execReceive := funext fun s => runDecoded_ok s hd
      rw [hreceive]
      exact decoder_owns_execReceive
    next => cases he
  | readReturns n => exact Agent.owns_next fun _ _ hk => State.feed_put _ hk
  | readFails => exact Agent.owns_next fun x s _ => State.abortReceive_put x s
  | readAll =>
    have hserve : handle .readAll = fun s => .next s.drain := funext State.serveReads_eq_drain
    rw [hserve]
    exact Agent.owns_next fun _ _ hk => State.feed_put _ hk
  | arrive bytes => exact Agent.owns_next fun _ _ _ => rfl
  | _ => cases he

end Sys2Proof.Machine

open Sys2Proof Sys2Proof.Machine

/-- Settles O53: each agent owns its event, so `Agent.Owns.step_swap` gives both directions. -/
theorem agentsCommute : Obligations.AgentsCommute := by
  intro a b es s t ha hb
  have hsend := Event.isTransmit.encoder_owns_handle ha
  have hreceive := Event.isReceive.decoder_owns_handle hb
  exact ⟨hsend.step_swap hreceive, hreceive.step_swap hsend⟩
end

section
/-! Proof of the family 70_reset_and_hazards: when a run is over and what its end is (R152). With no
operation in flight nothing but reset changes the end: what R13 refuses is no step, and the answers of the
transport find no call to answer. -/

namespace Sys2Proof.Machine

variable {s t : State} {e : Event} {op : Operation}

/-! ### The operation of an event (R13) -/

/-- An event that issues an operation is the execution of an instruction that is this operation. -/
theorem Event.exists_exec_of_operation (ho : e.operation = some op) :
    ∃ i, operationOf i = some op ∧ handle e = exec i := by
  cases e with
  | issue m =>
    simp only [Event.operation] at ho
    split at ho
    next i hd => exact ⟨i, ho, funext fun s => runDecoded_ok s hd⟩
    next => cases ho
  | issueHex ft id ds => exact ⟨.send ft id (hexPayload ds), ho, rfl⟩
  | _ => cases ho

/-- An operation that leads to a next state is none that the life-cycle table refuses. -/
theorem refuses_eq_false_of_handle_next (ho : e.operation = some op) (h : handle e s = .next t) :
    s.life.refuses op = false := by
  obtain ⟨i, hi, he⟩ := Event.exists_exec_of_operation ho
  by_contra hr
  have hrefused := (exec_operation_refused_iff s hi _).mpr ⟨rfl, by simpa using hr⟩
  cases (he ▸ h).symm.trans hrefused

/-! ### A block with no operation in flight (R132) -/

theorem State.failWrite_of_none (n : Nat) (hp : s.txPending = none) : s.failWrite n = s := by
  simp [State.failWrite, hp]

/-- With no operation in flight, an event that issues none and is not reset brings bytes on the RX stream or
changes nothing. -/
theorem handle_next_of_noneInFlight (hp : s.txPending = none) (hi : s.rxPhase = .idle)
    (ho : e.operation = none) (hreset : ∀ n, e ≠ .reset n) (h : handle e s = .next t) :
    t = s ∨ ∃ bytes, t = s.arrive bytes := by
  cases e with
  | issue m =>
    simp only [handle, runDecoded] at h
    split at h
    next i hd =>
      obtain ⟨op, hop⟩ := operationOf_of_decodeCommand hd
      rw [Event.operation_of_issues ⟨m, rfl, hd⟩, hop] at ho
      cases ho
    next => cases h
  | issueHex ft id ds => cases ho
  | writeDone => cases h.symm.trans (s.completeWrite_of_none hp); exact .inl rfl
  | writeFails n => cases h; exact .inl (State.failWrite_of_none n hp)
  | readReturns n => cases h; exact .inl (s.feed_idle _ hi)
  | readFails => cases h; exact .inl (if_pos hi)
  | readAll => cases h.symm.trans s.serveReads_eq_drain; exact .inl (s.feed_idle _ hi)
  | arrive bytes => cases h; exact .inr ⟨bytes, rfl⟩
  | hostRead r =>
    simp only [handle, State.hostRead] at h
    split_ifs at h
    cases h
    exact .inl rfl
  | reset n => exact absurd rfl (hreset n)

/-! ### When a run is over (R152) -/

theorem State.runOver_eq_false_of_inFlight (h : s.txPending.isSome ∨ s.rxPhase ≠ .idle) : s.runOver = false := by
  rw [Bool.eq_false_iff, Ne, State.runOver_iff]
  rintro ⟨hp, hi, -⟩
  simp [hp, hi] at h

theorem State.runOver_eq_false_of_operation {es : List Event} (hev : s.events = e :: es)
    (ho : e.operation = some op) (hl : s.life.refuses op = false) : s.runOver = false := by
  rw [Bool.eq_false_iff, Ne, State.runOver_iff]
  rintro ⟨-, -, ha⟩
  rw [hev] at ha
  cases hl.symm.trans (allRefused_operation ho ha).1

/-- A run that is over issues no operation that leads to a next state: the table refuses each. -/
theorem operation_eq_none_of_allRefused {es : List Event} (ha : allRefused s.life (e :: es) = true)
    (h : handle e s = .next t) : e.operation = none := by
  rw [Option.eq_none_iff_forall_ne_some]
  intro op ho
  cases (allRefused_operation ho ha).1.symm.trans (refuses_eq_false_of_handle_next ho h)

/-- A run that is over stays over, and only reset changes its end. -/
theorem State.runOver_step (h : s.runOver = true) (hstep : step s = .next t) :
    t.runOver = true ∧ (t.runEnd = s.runEnd ∨ ∃ n es, s.events = .reset n :: es) := by
  obtain ⟨hp, hi, ha⟩ := State.runOver_iff.mp h
  cases hev : s.events with
  | nil =>
    cases (step_nil s hev).symm.trans hstep
    exact ⟨h, .inl rfl⟩
  | cons e es =>
    rw [step_cons s e es hev] at hstep
    rw [hev] at ha
    by_cases hreset : ∃ n, e = .reset n
    · obtain ⟨n, rfl⟩ := hreset
      cases hstep
      exact ⟨State.runOver_iff.mpr ⟨rfl, rfl, ha⟩, .inr ⟨n, es, rfl⟩⟩
    · have hne : ∀ n, e ≠ .reset n := not_exists.mp hreset
      have ho : e.operation = none := operation_eq_none_of_allRefused (s := s.withEvents es) ha hstep
      have hrest : allRefused s.life es = true := allRefused_other ho hne ha
      rcases handle_next_of_noneInFlight (s := s.withEvents es) hp hi ho hne hstep with rfl | ⟨bytes, rfl⟩
      · exact ⟨State.runOver_iff.mpr ⟨hp, hi, hrest⟩, .inl rfl⟩
      · exact ⟨State.runOver_iff.mpr ⟨hp, hi, hrest⟩, .inl rfl⟩

end Sys2Proof.Machine

open Sys2Proof Sys2Proof.Machine

/-- Settles O58: `State.runOver_iff` with no event left; the two ways not to be over; `State.runOver_step`;
and the end is `State.runEnd` written out. -/
theorem runOver : Obligations.RunOver := by
  refine fun s => ⟨fun hev => ?_, State.runOver_eq_false_of_inFlight,
    fun _ _ _ => State.runOver_eq_false_of_operation, fun _ => State.runOver_step, rfl⟩
  simp [State.runOver_iff, hev, allRefused]
end

section
/-! Proofs of the family other, the wire encoding: decode and encode agree on every port (R50 to R62), the
rows of R60 by match and mask, the codes of the registers, and ENCODE's frame and errors (R71, R72, R76). -/

namespace Sys2Proof

/-! ### The command port (R62; the layout of messages is assumption 3) -/

theorem kindOfByte_kindByte (k : IdKind) : kindOfByte (kindByte k) = some k := by
  cases k <;> rfl

theorem kindByte_of_kindOfByte {b : Byte} {k : IdKind} (h : kindOfByte b = some k) : kindByte k = b := by
  unfold kindOfByte at h
  split_ifs at h with h0 h1 <;> cases h
  · exact h0.symm
  · exact h1.symm

theorem ftypeOfByte_ftypeByte (ft : FrameType) : ftypeOfByte (ftypeByte ft) = some ft := by
  cases ft <;> rfl

theorem ftypeByte_of_ftypeOfByte {b : Byte} {ft : FrameType} (h : ftypeOfByte b = some ft) :
    ftypeByte ft = b := by
  unfold ftypeOfByte at h
  split_ifs at h with h0 h1 <;> cases h
  · exact h0.symm
  · exact h1.symm

theorem decodeNew_kindByte (k : IdKind) : decodeNew [kindByte k] = .ok (.new k) := by
  rw [decodeNew, kindOfByte_kindByte]

theorem decodeSend_idBytes (ft : FrameType) (id : Word) (p : List Byte) :
    decodeSend (ftypeByte ft :: (idBytes 4 id ++ p)) = .ok (.send ft id p) := by
  have hid : idOfBytes [idByte id 0, idByte id 1, idByte id 2, idByte id 3] = id :=
    idOfBytes_idBytes .extended id id.isLt
  have hbytes : idBytes 4 id ++ p = idByte id 0 :: idByte id 1 :: idByte id 2 :: idByte id 3 :: p := rfl
  rw [hbytes, decodeSend, ftypeOfByte_ftypeByte, hid]

/-- NEW is read from its one operand byte. -/
theorem decodeNew_ok {operands : List Byte} {i : Instr} (h : decodeNew operands = .ok i) :
    ∃ k, i = .new k ∧ operands = [kindByte k] := by
  unfold decodeNew at h
  split at h
  next => cases h
  next b =>
    split at h
    next => cases h
    next k hk => cases h; exact ⟨k, rfl, by rw [kindByte_of_kindOfByte hk]⟩
  next => cases h

/-- SEND is read from its type byte, the four bytes of its identifier and its payload. -/
theorem decodeSend_ok {operands : List Byte} {i : Instr} (h : decodeSend operands = .ok i) :
    ∃ ft id p, i = .send ft id p ∧ operands = ftypeByte ft :: (idBytes 4 id ++ p) := by
  unfold decodeSend at h
  split at h
  next t b0 b1 b2 b3 p =>
    split at h
    next => cases h
    next ft hft =>
      cases h
      have hids : idBytes 4 (idOfBytes [b0, b1, b2, b3]) = [b0, b1, b2, b3] :=
        idBytes_idOfBytes .extended [b0, b1, b2, b3] rfl
      exact ⟨ft, _, p, rfl, by rw [hids, ftypeByte_of_ftypeOfByte hft]; rfl⟩
  next => cases h

/-- RECEIVE and CLOSE are read from no operand. -/
theorem decodeBare_ok {i j : Instr} {operands : List Byte} (h : decodeBare i operands = .ok j) :
    j = i ∧ operands = [] := by
  unfold decodeBare at h
  split at h
  next => cases h; exact ⟨rfl, rfl⟩
  next => cases h

/-- A command message is the encoding of the operation it decodes to. -/
theorem decodeCommand_spec {bytes : List Byte} {i : Instr} (h : decodeCommand bytes = .ok i) (k : IdKind) :
    wellFormed k i = true ∧ i.port k = .command ∧ encode k i = bytes := by
  unfold decodeCommand at h
  split at h
  next => cases h
  next sel operands =>
    split_ifs at h with hnew hsend hreceive hclose
    · obtain ⟨kind, rfl, rfl⟩ := decodeNew_ok h
      exact ⟨rfl, rfl, by rw [hnew]; rfl⟩
    · obtain ⟨ft, id, p, rfl, rfl⟩ := decodeSend_ok h
      exact ⟨rfl, rfl, by rw [hsend]; rfl⟩
    · obtain ⟨rfl, rfl⟩ := decodeBare_ok h
      exact ⟨rfl, rfl, by rw [hreceive]; rfl⟩
    · obtain ⟨rfl, rfl⟩ := decodeBare_ok h
      exact ⟨rfl, rfl, by rw [hclose]; rfl⟩

/-! ### Bursts and received frames (R50, R60) -/

theorem wireFrame_eq_append (cfg : Byte) (ids p : List Byte) :
    wireFrame cfg ids p = [0xAA#8, cfg] ++ ids ++ p ++ [0x55#8] := by
  simp [wireFrame, Config.startMarker, Config.endMarker]

/-- A 16-bit identifier comes back from the 32-bit operand. -/
theorem setWidth_setWidth_ident (id : BitVec 16) : (id.setWidth 32).setWidth 16 = id := by
  apply BitVec.eq_of_toNat_eq
  simp

theorem toNat_setWidth_ident_lt (id : BitVec 16) :
    (id.setWidth 32 : Word).toNat < 2 ^ (8 * wireSize .standard) := by
  have := id.isLt
  simp [wireSize]
  omega

/-- A received frame made of these fields decodes to the class that has them. -/
theorem decodeReceived_rxConfigByte (k : IdKind) (x : BitVec 3) (ft : FrameType) {id : Word} {p : List Byte}
    (hp : p.length ≤ 15) (hid : id.toNat < 2 ^ (8 * wireSize k)) :
    decodeReceived k (wireFrame (rxConfigByte x ft p.length) (idBytes (wireSize k) id) p)
      = .ok (receivedInstr (rxConfigByte x ft p.length) id p) := by
  rw [decodeReceived_frame k _ _ p (configLen_rxConfigByte x ft _ hp).symm (length_idBytes _ id),
    idOfBytes_idBytes k id hid]

theorem receivedInstr_rxConfigByte_data (x : BitVec 3) (id : Word) {p : List Byte} (hp : p.length ≤ 15) :
    receivedInstr (rxConfigByte x .data p.length) id p = .rxframeData x id p := by
  rw [receivedInstr, configFtype_rxConfigByte x _ _ hp, configIgnored_rxConfigByte x _ _ hp]

theorem receivedInstr_rxConfigByte_remote (x : BitVec 3) (id : Word) {p : List Byte} (hp : p.length ≤ 15) :
    receivedInstr (rxConfigByte x .remote p.length) id p = .rxframeRemote x id p := by
  rw [receivedInstr, configFtype_rxConfigByte x _ _ hp, configIgnored_rxConfigByte x _ _ hp]

end Sys2Proof

namespace Sys2Proof.Machine

/-! ### The errors of ENCODE, in the order of its checks (R72, R128) -/

variable {ft : FrameType} {id : Word} {n : Nat} {k : IdKind} {e : Status}

theorem encodeError_of_remotePayload (hft : ft = .remote) (hn : n ≠ 0) :
    encodeError ft id n k = some .remoteFrameWithPayload :=
  if_pos ⟨hft, hn⟩

theorem encodeError_of_largeId (hr : ft = .remote → n = 0) (hk : k = .standard) (hid : 0xFFFF < id.toNat) :
    encodeError ft id n k = some .idTooLarge :=
  (if_neg (by simpa using hr)).trans (if_pos ((wireSize_lt_byteSizeHelper k id).mpr ⟨hk, hid⟩))

theorem encodeError_of_largePayload (hft : ft = .data) (hid : k = .standard → id.toNat ≤ 0xFFFF)
    (hn : 15 < n) : encodeError ft id n k = some .payloadTooLarge := by
  have hsize : ¬wireSize k < byteSizeHelper id := by simpa [wireSize_lt_byteSizeHelper] using hid
  exact (if_neg (by simp [hft])).trans ((if_neg hsize).trans (if_pos hn))

/-- An error is that of a check that fails with the checks before it passed. -/
theorem encodeError_some (h : encodeError ft id n k = some e) :
    (e = .remoteFrameWithPayload ∧ ft = .remote ∧ n ≠ 0) ∨
    (e = .idTooLarge ∧ (ft = .remote → n = 0) ∧ k = .standard ∧ 0xFFFF < id.toNat) ∨
    (e = .payloadTooLarge ∧ ft = .data ∧ (k = .standard → id.toNat ≤ 0xFFFF) ∧ 15 < n) := by
  have hsize := wireSize_lt_byteSizeHelper k id
  unfold encodeError at h
  split_ifs at h with hremote hid hlen <;> cases h
  · exact .inl ⟨rfl, hremote⟩
  · exact .inr (.inl ⟨rfl, by simpa using hremote, hsize.mp hid⟩)
  · have hlen : 15 < n := hlen
    refine .inr (.inr ⟨rfl, ?_, by simpa [hsize] using hid, hlen⟩)
    cases ft
    case data => rfl
    case remote => exact absurd ⟨rfl, by omega⟩ hremote

end Sys2Proof.Machine

open Sys2Proof Sys2Proof.Machine

/-- Settles O11: row by row; the frame forms by `decodeBurst_frame`, the received classes by
`decodeReceived_rxConfigByte`, the operations by their operands. -/
theorem decodeEncodeAgree : Obligations.DecodeEncodeAgree := by
  intro k i hw
  cases i with
  | frameDataStd id p =>
    have hp : p.length ≤ 15 := (payloadFits_iff p).mp hw
    exact (decodeBurst_frame .standard .data _ p (toNat_setWidth_ident_lt id) hp nofun).trans
      (by rw [emittedInstr, setWidth_setWidth_ident])
  | frameRemoteStd id =>
    exact (decodeBurst_frame .standard .remote _ [] (toNat_setWidth_ident_lt id) (by simp) fun _ => rfl).trans
      (by rw [emittedInstr, setWidth_setWidth_ident])
  | frameDataExt id p =>
    exact decodeBurst_frame .extended .data id p id.isLt ((payloadFits_iff p).mp hw) nofun
  | frameRemoteExt id =>
    exact decodeBurst_frame .extended .remote id [] id.isLt (by simp) fun _ => rfl
  | rxframeData x id p =>
    obtain ⟨hp, hid⟩ : p.length ≤ 15 ∧ id.toNat < 2 ^ (8 * wireSize k) := by simpa [wellFormed] using hw
    exact (decodeReceived_rxConfigByte k x .data hp hid).trans
      (congrArg _ (receivedInstr_rxConfigByte_data x id hp))
  | rxframeRemote x id p =>
    obtain ⟨hp, hid⟩ : p.length ≤ 15 ∧ id.toNat < 2 ^ (8 * wireSize k) := by simpa [wellFormed] using hw
    exact (decodeReceived_rxConfigByte k x .remote hp hid).trans
      (congrArg _ (receivedInstr_rxConfigByte_remote x id hp))
  | new kind => exact decodeNew_kindByte kind
  | send ft id p => exact decodeSend_idBytes ft id p
  | receive => rfl
  | close => rfl

/-- Settles O12: on each port what decodes is the instruction of bytes of known shape, which are its
encoding. -/
theorem encodeDecodeAgree : Obligations.EncodeDecodeAgree := by
  rintro k p bytes i (rfl | rfl | rfl) h
  · exact decodeCommand_spec h k
  · obtain ⟨kind, ft, id, payload, rfl, hp, hr, hid, rfl⟩ := decodeBurst_ok h
    exact emittedInstr_spec kind k ft id payload hp hr hid
  · obtain ⟨cfg, ids, payload, rfl, hl, hi, rfl⟩ := decodeReceived_ok h
    exact receivedInstr_spec k cfg ids payload hl hi

/-- Settles O4: the frame is `encodeWire_ok`, the three checks are `encodeError_none`. -/
theorem encodeFrameExact : Obligations.EncodeFrameExact := by
  intro ft id p k f
  have hframe := wireFrame_eq_append (configByte k ft p.length) (idBytes (wireSize k) id) p
  constructor
  · intro h
    obtain ⟨hn, hf⟩ := encodeWire_ok h
    obtain ⟨hp, hr, hid⟩ := encodeError_none_fits hn
    exact ⟨hr, hid, hp, hf.trans hframe⟩
  · rintro ⟨hr, hid, hp, hf⟩
    have hstd : k = .standard → id.toNat ≤ 0xFFFF := by
      rintro rfl
      exact Nat.le_of_lt_succ hid
    have hn := (encodeError_none ft id p.length k).mpr ⟨by simpa using hr, hstd, hp⟩
    exact (encodeWire_of_none hn).trans (congrArg _ (hframe.trans hf.symm))

/-- Settles O5: `encodeError_some` one way, the three checks the other. -/
theorem encodeErrorFirstFailing : Obligations.EncodeErrorFirstFailing := by
  intro ft id p k e
  simp only [encodeWire_error, ← List.length_eq_zero_iff, ne_eq]
  refine ⟨encodeError_some, ?_⟩
  rintro (⟨rfl, hft, hp⟩ | ⟨rfl, hr, hk, hid⟩ | ⟨rfl, hft, hid, hp⟩)
  · exact encodeError_of_remotePayload hft hp
  · exact encodeError_of_largeId hr hk hid
  · exact encodeError_of_largePayload hft hid hp

/-- Settles O10: for each of the 256 ConfigBytes. -/
theorem frameRowsByMask : Obligations.FrameRowsByMask := by
  unfold Obligations.FrameRowsByMask
  decide

/-- Settles O13: each word is decoded. -/
theorem specWordsDecode : Obligations.SpecWordsDecode := by
  unfold Obligations.SpecWordsDecode
  decide

/-- Settles O14: each code is read off its table. -/
theorem registerCodes : Obligations.RegisterCodes := ⟨rfl, rfl, rfl⟩
end

section
/-! Proofs of the family other, the invariant: what each update of the encoder, of the decoder and of the
life cycle has to find to keep it, and from that every way an event leads to a next state. -/

namespace Sys2Proof.Machine

/-- A burst that may stand on the TX stream: not empty, and a frame ENCODE makes or the first bytes of one (R34,
R35, R140). -/
def FramedBurst (burst : List Byte) : Prop :=
  burst ≠ [] ∧ ∃ k ft id payload frame, encodeWire ft id payload k = .ok frame ∧ burst <+: frame

theorem encodeWire_ne_nil {ft : FrameType} {id : Word} {p f : List Byte} {k : IdKind}
    (h : encodeWire ft id p k = .ok f) : f ≠ [] := by
  obtain ⟨-, rfl⟩ := encodeWire_ok h
  exact List.cons_ne_nil _ _

/-- The encoder's errors are none of the decoder's (R17). -/
theorem encodeWire_error_ne {ft : FrameType} {id : Word} {p : List Byte} {k : IdKind} {e : Status}
    (h : encodeWire ft id p k = .error e) : e ≠ .badStartByte ∧ e ≠ .badEndByte := by
  rcases encodeError_some (encodeWire_error.mp h) with ⟨rfl, -⟩ | ⟨rfl, -⟩ | ⟨rfl, -⟩ <;> decide

variable {s : State}

/-! ### The encoder -/

theorem State.Inv.pending_framed (h : s.Inv) {f : List Byte} (hp : s.txPending = some f) : FramedBurst f :=
  ⟨encodeWire_ne_nil (h.pending_frame f hp), _, _, _, _, f, h.pending_frame f hp, List.prefix_rfl⟩

/-- A SEND is in flight only where a Converter is. -/
theorem State.Inv.life_of_pending (h : s.Inv) {f : List Byte} (hp : s.txPending = some f) :
    s.life ≠ .unconfigured := by
  intro hl
  obtain ⟨-, hnone, -⟩ := h.unconfigured_clean hl
  cases hp.symm.trans hnone

theorem State.Inv.beginSend (h : s.Inv) (hl : s.life ≠ .unconfigured) (hp : s.txPending = none)
    (ft : FrameType) (id : Word) (p : List Byte) : (s.beginSend ft id p).Inv :=
  { h with
    unconfigured_clean := fun hu => absurd hu hl
    send_window := fun _ => rfl
    pending_frame := fun _ hf => nomatch hp.symm.trans hf
    tx_status_produced := nofun }

theorem State.Inv.completeTx (h : s.Inv) (hl : s.life ≠ .unconfigured) {e : Status}
    (he : e ≠ .badStartByte ∧ e ≠ .badEndByte) : (s.completeTx e).Inv :=
  { h with
    unconfigured_clean := fun hu => absurd hu hl
    send_window := nofun
    pending_frame := nofun
    tx_status_produced := fun _ => he }

theorem State.Inv.holdBurst (h : s.Inv) (hl : s.life ≠ .unconfigured) (hv : s.txStatusValid = false)
    {f : List Byte} (hf : encodeWire s.txFtype s.txId s.txPayload s.idKind = .ok f) : (s.holdBurst f).Inv :=
  { h with
    unconfigured_clean := fun hu => absurd hu hl
    send_window := fun _ => hv
    pending_frame := fun _ hb => by cases hb; exact hf }

theorem State.Inv.appendTx (h : s.Inv) {b : List Byte} (hb : FramedBurst b) : (s.appendTx b).Inv :=
  { h with
    bursts_framed := fun burst hm => by
      rcases List.mem_append.mp hm with hm | hm
      · exact h.bursts_framed burst hm
      · rwa [List.mem_singleton.mp hm] }

@[simp] theorem State.deliver_life (s : State) (n : Nat) (f : List Byte) : (s.deliver n f).life = s.life := by
  rw [s.deliver_eq]

/-- What is delivered of a frame is the first bytes of it, or no burst at all (assumption 6). -/
theorem State.Inv.deliver (h : s.Inv) (n : Nat) {f : List Byte} (hf : FramedBurst f) :
    (s.deliver n f).Inv := by
  unfold State.deliver
  split_ifs with he
  · exact h
  · obtain ⟨-, k, ft, id, p, frame, hframe, hpre⟩ := hf
    exact h.appendTx ⟨by simpa using he, k, ft, id, p, frame, hframe, (List.take_prefix n f).trans hpre⟩

/-- SEND from its operands completes with a status of its own or holds their frame. -/
theorem State.Inv.submit (h : s.Inv) (hl : s.life ≠ .unconfigured) (hv : s.txStatusValid = false) :
    s.submit.Inv := by
  rcases s.submit_cases with ⟨e, he, hs⟩ | ⟨f, -, -, hs⟩ | ⟨f, hf, -, hs⟩ <;> rw [hs]
  · exact h.completeTx hl (encodeWire_error_ne he)
  · exact h.completeTx hl (by decide)
  · exact h.holdBurst hl hv hf

/-! ### The decoder -/

/-- RECEIVE completes with an error that is the decoder's or the transport's, in any life-cycle state but
Unconfigured. -/
theorem State.Inv.completeRx (h : s.Inv) (hl : s.life ≠ .unconfigured) {e : Status}
    (he : e = .badStartByte ∨ e = .badEndByte ∨ e = .transportError) : (s.completeRx e).Inv :=
  have hd : (s.completeRx e).DecoderInv := State.completeRx_inv e he
  { h with
    unconfigured_clean := fun hu => absurd hu hl
    receive_needs_open := fun hi => absurd rfl hi
    start_reads_one := hd.start_reads_one
    ident_progress := hd.ident_progress
    payload_progress := hd.payload_progress
    end_progress := hd.end_progress
    count_bounded := hd.count_bounded
    receive_windows := hd.receive_windows
    results_when_ok := hd.results_when_ok
    results_bounded := hd.results_bounded
    rx_status_produced := hd.rx_status_produced }

theorem State.Inv.beginReceive (h : s.Inv) (hl : s.life ≠ .unconfigured) : s.beginReceive.Inv :=
  { h with
    unconfigured_clean := fun hu => absurd hu hl
    receive_windows := fun _ => ⟨rfl, rfl⟩
    results_when_ok := rfl
    results_bounded := nofun
    rx_status_produced := nofun }

theorem State.Inv.startDecode (h : s.Inv) (hl : s.life = .opened) (hv : s.rxStatusValid = false)
    (hf : s.rxFrameValid = false) : s.startDecode.Inv := by
  refine h.of_decoder (by constructor <;> rfl) hl ?_
  constructor <;> simp [hv, hf]

theorem State.Inv.arrive (h : s.Inv) (bytes : List Byte) : (s.arrive bytes).Inv :=
  { h with }

/-- The class run on the frame at the cursor leaves what the walk over all that has arrived leaves. -/
theorem State.drain_of_wireFrame {cfg : Byte} {ids p rest : List Byte} (hs : s.rxPhase = .start)
    (hl : p.length = configLen cfg) (hi : ids.length = wireSize s.idKind)
    (hst : s.rxStream = wireFrame cfg ids p ++ rest) :
    s.drain = ((s.consume (3 + wireSize s.idKind + p.length)).atEnd cfg ids p).acceptFrame :=
  (s.drain_frame cfg Config.endMarker ids p rest hs hl hi hst).trans (if_pos rfl)

/-! ### The life cycle -/

theorem State.Inv.completeCtl (h : s.Inv) (hl : s.life ≠ .unconfigured) : (s.completeCtl .ok).Inv :=
  { h with
    unconfigured_clean := fun hu => absurd hu hl
    ctl_status_produced := fun _ => rfl }

/-- An unconfigured block has nothing in flight, so it may become one of any kind. -/
theorem State.Inv.configure (h : s.Inv) (hl : s.life = .unconfigured) (k : IdKind) :
    ((s.setIdKind k).setLife .opened).Inv := by
  obtain ⟨hi, hp, -, -, -, hframe⟩ := h.unconfigured_clean hl
  exact { h with
    unconfigured_clean := nofun
    receive_needs_open := fun hne => absurd hi hne
    ident_progress := fun hid => nomatch hi.symm.trans hid
    payload_progress := fun hpl => nomatch hi.symm.trans hpl
    end_progress := fun hend => nomatch hi.symm.trans hend
    pending_frame := fun _ hb => nomatch hp.symm.trans hb
    results_bounded := fun hv => nomatch hframe.symm.trans hv }

/-- The transport of a block with no RECEIVE in flight may close. -/
theorem State.Inv.closeTransport (h : s.Inv) (hi : s.rxPhase = .idle) :
    (s.strobeClose.setLife .closed).Inv :=
  { h with
    unconfigured_clean := nofun
    receive_needs_open := fun hne => absurd hi hne }

/-- Ending the RECEIVE before or after the transport closes is the same. -/
theorem State.abortReceive_closeTransport (s : State) :
    (s.strobeClose.setLife .closed).abortReceive = s.abortReceive.strobeClose.setLife .closed := by
  rcases s.abortReceive_cases with ⟨hi, h⟩ | ⟨hi, h⟩ <;> rw [h]
  · exact if_pos hi
  · exact if_neg hi

/-- The reset input leaves the registers of reset, which meet the invariant whatever the TX stream holds, as
long as its bursts are framed. -/
theorem State.assertReset_inv (s : State) (n : Nat)
    (h : ∀ burst ∈ (s.assertReset n).txBursts, FramedBurst burst) : (s.assertReset n).Inv where
  unconfigured_clean _ := ⟨rfl, rfl, rfl, rfl, rfl, rfl⟩
  receive_needs_open hi := absurd rfl hi
  start_reads_one := nofun
  ident_progress := nofun
  payload_progress := nofun
  end_progress := nofun
  count_bounded hi := absurd rfl hi
  receive_windows hi := absurd rfl hi
  send_window := nofun
  pending_frame := nofun
  results_when_ok := rfl
  results_bounded := nofun
  tx_status_produced := nofun
  rx_status_produced := nofun
  ctl_status_produced := nofun
  bursts_framed := h

theorem State.assertReset_txBursts (s : State) (n : Nat) :
    (s.assertReset n).txBursts = (s.deliver n (s.txPending.getD [])).txBursts := rfl

theorem State.assertReset_txBursts_of_none (hp : s.txPending = none) (n : Nat) :
    (s.assertReset n).txBursts = s.txBursts := by
  simp [s.assertReset_txBursts, State.deliver_txBursts, hp]

theorem State.assertReset_txBursts_of_pending {f : List Byte} (hp : s.txPending = some f) (n : Nat) :
    (s.assertReset n).txBursts = (s.deliver n f).txBursts := by
  rw [s.assertReset_txBursts, hp, Option.getD_some]

theorem State.Inv.assertReset (h : s.Inv) (n : Nat) : (s.assertReset n).Inv := by
  refine s.assertReset_inv n ?_
  cases hp : s.txPending with
  | none => exact State.assertReset_txBursts_of_none hp n ▸ h.bursts_framed
  | some f => exact State.assertReset_txBursts_of_pending hp n ▸ (h.deliver n (h.pending_framed hp)).bursts_framed

/-! ### Every step -/

/-- Each way an event leads to a next state keeps the invariant. -/
theorem State.Inv.moves (h : s.Inv) {e : Event} {t : State} (hm : s.Moves e t) : t.Inv := by
  cases hm with
  | new _ k _ hl => exact (h.configure hl k).completeCtl nofun
  | send _ ft id p _ hl hp => exact (h.beginSend hl hp ft id p).submit hl rfl
  | receiveClosed _ _ hl =>
    have hl : s.life ≠ .unconfigured := by simp [hl]
    exact (h.beginReceive hl).completeRx hl (by simp)
  | receiveOpen _ _ hl => exact (h.beginReceive (by simp [hl])).startDecode hl rfl rfl
  | closeOpen _ _ hl =>
    rw [s.abortReceive_closeTransport]
    exact (h.abortReceive.closeTransport s.abortReceive_rxPhase).completeCtl nofun
  | closeClosed _ _ hl => exact h.completeCtl (by simp [hl])
  | noWrite => exact h
  | write b _ _ _ _ hp =>
    exact (h.appendTx (h.pending_framed hp)).completeTx (h.life_of_pending hp) (by decide)
  | noFailure => exact h
  | writeFails n b hp =>
    exact (h.deliver n (h.pending_framed hp)).completeTx (by simpa using h.life_of_pending hp) (by decide)
  | readReturns => exact h.feed _
  | readFails => exact h.abortReceive
  | drain => exact h.feed _
  | frame _ _ _ _ hs hl hi hst =>
    rw [← State.drain_of_wireFrame hs hl hi hst]
    exact h.feed _
  | arrive bytes => exact h.arrive bytes
  | hostRead => exact h
  | reset n => exact h.assertReset n

end Sys2Proof.Machine

open Sys2Proof Sys2Proof.Machine

/-- Settles O44: the state after reset is what the reset input makes of itself. -/
theorem resetMeetsInvariant : Obligations.ResetMeetsInvariant :=
  State.assertReset_inv State.reset 0 nofun

/-- Settles O45: with no event left the state stays; otherwise by `State.Inv.moves`. -/
theorem stepKeepsInvariant : Obligations.StepKeepsInvariant := by
  intro s t h hstep
  rcases step_next s hstep with ⟨-, rfl⟩ | ⟨e, es, -, hm⟩
  · exact h
  · exact (h.withEvents es).moves hm
end

section
/-! Proofs of the family other, every step: what can move `LIFE` and `ID_KIND` (R11, R12), the TX stream and
the SEND in flight (R31, R46), the RX stream (R36 to R38), and what can fault (R18, R143, R144). Each is one
case for each way an event leads to a next state. -/

namespace Sys2Proof.Machine

/-! ### What the shared operations leave alone -/

section
variable (s : State)

@[simp] theorem State.submit_life : s.submit.life = s.life := by
  rcases s.submit_cases with ⟨e, -, h⟩ | ⟨f, -, -, h⟩ | ⟨f, -, -, h⟩ <;> rw [h] <;> rfl

@[simp] theorem State.submit_idKind : s.submit.idKind = s.idKind := by
  rcases s.submit_cases with ⟨e, -, h⟩ | ⟨f, -, -, h⟩ | ⟨f, -, -, h⟩ <;> rw [h] <;> rfl

@[simp] theorem State.submit_txBursts : s.submit.txBursts = s.txBursts := by
  rcases s.submit_cases with ⟨e, -, h⟩ | ⟨f, -, -, h⟩ | ⟨f, -, -, h⟩ <;> rw [h] <;> rfl

@[simp] theorem State.submit_rxStream : s.submit.rxStream = s.rxStream := by
  rcases s.submit_cases with ⟨e, -, h⟩ | ⟨f, -, -, h⟩ | ⟨f, -, -, h⟩ <;> rw [h] <;> rfl

@[simp] theorem State.submit_rxCursor : s.submit.rxCursor = s.rxCursor := by
  rcases s.submit_cases with ⟨e, -, h⟩ | ⟨f, -, -, h⟩ | ⟨f, -, -, h⟩ <;> rw [h] <;> rfl

@[simp] theorem State.deliver_idKind (n : Nat) (f : List Byte) : (s.deliver n f).idKind = s.idKind := by
  rw [s.deliver_eq]

@[simp] theorem State.deliver_rxStream (n : Nat) (f : List Byte) : (s.deliver n f).rxStream = s.rxStream := by
  rw [s.deliver_eq]

@[simp] theorem State.deliver_rxCursor (n : Nat) (f : List Byte) : (s.deliver n f).rxCursor = s.rxCursor := by
  rw [s.deliver_eq]

theorem State.abortReceive_sameOutside : s.SameOutsideDecoder s.abortReceive := by
  rcases s.abortReceive_cases with ⟨-, h⟩ | ⟨-, h⟩ <;> rw [h]
  · exact .refl s
  · constructor <;> rfl

@[simp] theorem State.abortReceive_rxStream : s.abortReceive.rxStream = s.rxStream := by
  rcases s.abortReceive_cases with ⟨-, h⟩ | ⟨-, h⟩ <;> rw [h]
  rfl

@[simp] theorem State.abortReceive_rxCursor : s.abortReceive.rxCursor = s.rxCursor := by
  rcases s.abortReceive_cases with ⟨-, h⟩ | ⟨-, h⟩ <;> rw [h]
  rfl

/-- A partial delivery is one burst, the first bytes of the frame, or none. -/
theorem State.deliver_grows (n : Nat) (f : List Byte) :
    (s.deliver n f).txBursts = s.txBursts ∨ (s.deliver n f).txBursts = s.txBursts ++ [f.take n] := by
  rw [s.deliver_txBursts]
  split_ifs
  · exact .inl (List.append_nil _)
  · exact .inr rfl

end

variable {s t : State} {e : Event}

/-! ### `LIFE`, `ID_KIND`, the TX stream and the SEND in flight (R11, R12, R31, R46) -/

/-- Event `e` leaves the TX stream, or puts one burst on it: the frame in flight, or what a failure or reset
left of it. -/
def State.TxGrows (s : State) (e : Event) (t : State) : Prop :=
  t.txBursts = s.txBursts ∨ ∃ f b, s.txPending = some f ∧ t.txBursts = s.txBursts ++ [b] ∧ b <+: f ∧
    (b = f ∨ (∃ n, e = .writeFails n) ∨ ∃ n, e = .reset n)

/-- What event `e` may do outside the decoder. -/
structure State.OutsideMoves (s : State) (e : Event) (t : State) : Prop where
  /-- the control registers stay as they are but for NEW, the first CLOSE and reset -/
  control : (t.life = s.life ∧ t.idKind = s.idKind) ∨
    (∃ k, e.issues (.new k) ∧ s.life = .unconfigured ∧ t.life = .opened ∧ t.idKind = k) ∨
    (e.issues .close ∧ s.life = .opened ∧ t.life = .closed ∧ t.idKind = s.idKind) ∨
    ∃ n, e = .reset n ∧ t.life = .unconfigured
  txGrows : s.TxGrows e t
  /-- a SEND in flight stays so but for the end of its write, its failure and reset -/
  txWaits : ∀ f, s.txPending = some f →
    t.txPending = some f ∨ e = .writeDone ∨ (∃ n, e = .writeFails n) ∨ ∃ n, e = .reset n

theorem State.OutsideMoves.of_sameOutside (h : s.SameOutsideDecoder t) : s.OutsideMoves e t where
  control := .inl ⟨h.life, h.idKind⟩
  txGrows := .inl h.txBursts
  txWaits _ hf := .inl (h.txPending.trans hf)

/-- What is delivered of the frame in flight are its first bytes. -/
theorem State.TxGrows.of_deliver {n : Nat} {f : List Byte} (hp : s.txPending = some f)
    (ht : t.txBursts = (s.deliver n f).txBursts) (he : (∃ n, e = .writeFails n) ∨ ∃ n, e = .reset n) :
    s.TxGrows e t := by
  rcases s.deliver_grows n f with h | h
  · exact .inl (ht.trans h)
  · exact .inr ⟨f, _, hp, ht.trans h, List.take_prefix n f, .inr he⟩

theorem State.TxGrows.reset (s : State) (n : Nat) : s.TxGrows (.reset n) (s.assertReset n) := by
  cases hp : s.txPending with
  | none => exact .inl (State.assertReset_txBursts_of_none hp n)
  | some f => exact .of_deliver hp (State.assertReset_txBursts_of_pending hp n) (.inr ⟨n, rfl⟩)

/-- Outside the decoder NEW, SEND, CLOSE, the end of a write and reset do what they may; all other events do
nothing there. -/
theorem State.Moves.outside (h : s.Moves e t) : s.OutsideMoves e t := by
  cases h with
  | new _ k he hl => exact ⟨.inr (.inl ⟨k, he, hl, rfl, rfl⟩), .inl rfl, fun _ hf => .inl hf⟩
  | send _ _ _ _ _ _ hp =>
    exact ⟨.inl ⟨by simp, by simp⟩, .inl (by simp), fun _ hf => nomatch hp.symm.trans hf⟩
  | closeOpen _ he hl =>
    have hout := (s.strobeClose.setLife .closed).abortReceive_sameOutside
    exact ⟨.inr (.inr (.inl ⟨he, hl, hout.life, hout.idKind⟩)), .inl hout.txBursts,
      fun _ hf => .inl (hout.txPending.trans hf)⟩
  | closeClosed => exact ⟨.inl ⟨rfl, rfl⟩, .inl rfl, fun _ hf => .inl hf⟩
  | write b _ _ _ _ hp =>
    exact ⟨.inl ⟨rfl, rfl⟩, .inr ⟨b, b, hp, rfl, List.prefix_rfl, .inl rfl⟩, fun _ _ => .inr (.inl rfl)⟩
  | writeFails n b hp =>
    exact ⟨.inl ⟨by simp, by simp⟩, .of_deliver (n := n) hp rfl (.inl ⟨n, rfl⟩),
      fun _ _ => .inr (.inr (.inl ⟨n, rfl⟩))⟩
  | reset n =>
    exact ⟨.inr (.inr (.inr ⟨n, rfl, rfl⟩)), .reset s n, fun _ _ => .inr (.inr (.inr ⟨n, rfl⟩))⟩
  | receiveClosed => exact .of_sameOutside (by constructor <;> rfl)
  | receiveOpen => exact .of_sameOutside (by constructor <;> rfl)
  | noWrite => exact .of_sameOutside (.refl s)
  | noFailure => exact .of_sameOutside (.refl s)
  | readReturns n => exact .of_sameOutside (s.readReturns_sameOutside n)
  | readFails => exact .of_sameOutside s.abortReceive_sameOutside
  | drain => exact .of_sameOutside s.drain_sameOutside
  | frame cfg ids p => exact .of_sameOutside (s.acceptFrame_sameOutside _ cfg ids p)
  | arrive => exact .of_sameOutside (by constructor <;> rfl)
  | hostRead => exact .of_sameOutside (.refl s)

/-! ### The RX stream (R36 to R38) -/

/-- Event `e` takes bytes off the front of the RX stream, only for a RECEIVE in flight, and adds behind it only
what the environment says arrives. -/
def State.RxMoves (s : State) (e : Event) (t : State) : Prop :=
  ∃ (n : Nat) (added : List Byte), n ≤ s.rxStream.length ∧ t.rxCursor = s.rxCursor + n ∧
    t.rxStream = s.rxStream.drop n ++ added ∧ (n ≠ 0 → s.rxPhase ≠ .idle) ∧
    (added ≠ [] → e = .arrive added)

theorem State.RxMoves.of_eq (hs : t.rxStream = s.rxStream) (hc : t.rxCursor = s.rxCursor) : s.RxMoves e t :=
  ⟨0, [], by simp [hs, hc]⟩

/-- Bytes fed to the decoder are taken as far as it takes them. -/
theorem State.RxMoves.feed {bs : List Byte} (hl : bs.length ≤ s.rxStream.length) :
    s.RxMoves e (State.feed bs s) := by
  obtain ⟨m, hm, hstream, hcursor, hidle, -⟩ := s.feed_consumes bs
  exact ⟨m, [], hm.trans hl, hcursor, by simpa using hstream, fun hne hi => hne (hidle hi), by simp⟩

theorem State.Moves.rxMoves (h : s.Moves e t) : s.RxMoves e t := by
  cases h with
  | readReturns n => exact .feed (List.length_take_le' _ _)
  | drain => exact .feed le_rfl
  | frame _ _ _ _ hs hl hi hst =>
    rw [← State.drain_of_wireFrame hs hl hi hst]
    exact .feed le_rfl
  | arrive bytes => exact ⟨0, bytes, by simp⟩
  | new => exact .of_eq rfl rfl
  | send => exact .of_eq (by simp) (by simp)
  | receiveClosed => exact .of_eq rfl rfl
  | receiveOpen => exact .of_eq rfl rfl
  | closeOpen => exact .of_eq (by simp) (by simp)
  | closeClosed => exact .of_eq rfl rfl
  | noWrite => exact .of_eq rfl rfl
  | write => exact .of_eq rfl rfl
  | noFailure => exact .of_eq rfl rfl
  | writeFails => exact .of_eq (by simp) (by simp)
  | readFails => exact .of_eq (by simp) (by simp)
  | hostRead => exact .of_eq rfl rfl
  | reset => exact .of_eq rfl rfl

/-- The walk over what one transport read left goes on to where the walk over everything ends (R90): a read
that leaves RECEIVE in flight took all its bytes, and after one that completes it no byte is taken. -/
theorem State.drain_readReturns (s : State) (n : Nat) : (s.readReturns n).drain = s.drain := by
  have hwhole : s.drain = State.feed (s.rxStream.drop (min n s.rxCnt)) (s.readReturns n) := by
    rw [State.readReturns, ← State.feed_append, List.take_append_drop, State.drain]
  rw [hwhole]
  by_cases hi : (s.readReturns n).rxPhase = .idle
  · rw [State.drain, State.feed_idle _ _ hi, State.feed_idle _ _ hi]
  · obtain ⟨m, -, hstream, -, -, hall⟩ := s.feed_consumes (s.rxStream.take (min n s.rxCnt))
    have hrest : (s.readReturns n).rxStream = s.rxStream.drop (min n s.rxCnt) := by
      rw [State.readReturns, hstream, hall hi]
      simp
    rw [State.drain, hrest]

/-! ### What faults (R18, R143, R144) -/

section
variable (s)

theorem execNew_ne_fault (k : IdKind) (r : Fault) : execNew k s ≠ .fault r := by
  unfold execNew
  split <;> simp

theorem execSend_eq_fault_iff (ft : FrameType) (id : Word) (p : List Byte) (r : Fault) :
    execSend ft id p s = .fault r ↔ r = .sendOverlap ∧ s.life ≠ .unconfigured ∧ s.txPending.isSome := by
  unfold execSend
  split_ifs <;> simp [*, eq_comm (b := r)]

theorem execReceive_eq_fault_iff (r : Fault) :
    execReceive s = .fault r ↔ r = .receiveOverlap ∧ s.life ≠ .unconfigured ∧ s.rxPhase ≠ .idle := by
  unfold execReceive
  split_ifs <;> simp [*, eq_comm (b := r)]

theorem execClose_ne_fault (r : Fault) : execClose s ≠ .fault r := by
  unfold execClose
  split <;> simp

theorem emitFrame_ne_fault (k : IdKind) (i : Instr) (r : Fault) : emitFrame k i s ≠ .fault r := by
  rcases emitFrame_cases s k i with ⟨-, -, -, h⟩ | ⟨-, h⟩ <;> simp [h]

/-- The end of a write never faults: the burst is a frame form or is no instruction. -/
theorem State.completeWrite_ne_fault (r : Fault) : s.completeWrite ≠ .fault r := by
  cases hp : s.txPending with
  | none => simp [s.completeWrite_of_none hp]
  | some b =>
    cases hd : decode .txBurst b with
    | error d => simp [State.completeWrite, runDecoded, hp, hd]
    | ok i =>
      obtain ⟨k, hi⟩ := exec_of_decodeBurst hd
      rw [State.completeWrite_of_decodeBurst hp hd, hi]
      exact emitFrame_ne_fault s k i r

end

/-- An event that faults issues a second SEND or a second RECEIVE, or is a read of a register outside its
window. -/
theorem handle_fault {r : Fault} (h : handle e s = .fault r) :
    (r = .sendOverlap ∧ s.life ≠ .unconfigured ∧ s.txPending.isSome ∧
      ((∃ m ft id p, e = .issue m ∧ decode .command m = .ok (.send ft id p)) ∨
        ∃ ft id ds, e = .issueHex ft id ds)) ∨
    (r = .receiveOverlap ∧ s.life ≠ .unconfigured ∧ s.rxPhase ≠ .idle ∧
      ∃ m, e = .issue m ∧ decode .command m = .ok .receive) ∨
    ∃ reg, r = .readOutsideWindow reg ∧ s.visible reg = none ∧ e = .hostRead reg := by
  cases e with
  | issue m =>
    simp only [handle, runDecoded] at h
    split at h
    next i hd =>
      rcases decodeCommand_ok hd with ⟨k, rfl⟩ | ⟨ft, id, p, rfl⟩ | rfl | rfl
      · exact absurd h (execNew_ne_fault s k r)
      · obtain ⟨hr, hl, hp⟩ := (execSend_eq_fault_iff s ft id p r).mp h
        exact .inl ⟨hr, hl, hp, .inl ⟨m, ft, id, p, rfl, hd⟩⟩
      · obtain ⟨hr, hl, hi⟩ := (execReceive_eq_fault_iff s r).mp h
        exact .inr (.inl ⟨hr, hl, hi, m, rfl, hd⟩)
      · exact absurd h (execClose_ne_fault s r)
    next => cases h
  | issueHex ft id ds =>
    obtain ⟨hr, hl, hp⟩ := (execSend_eq_fault_iff s ft id (hexPayload ds) r).mp h
    exact .inl ⟨hr, hl, hp, .inr ⟨ft, id, ds, rfl⟩⟩
  | writeDone => exact absurd h (s.completeWrite_ne_fault r)
  | readAll => cases s.serveReads_eq_drain.symm.trans h
  | hostRead reg =>
    simp only [handle, State.hostRead] at h
    split_ifs at h with hv
    cases h
    exact .inr (.inr ⟨reg, rfl, by simpa using hv, rfl⟩)
  | writeFails n => cases h
  | readReturns n => cases h
  | readFails => cases h
  | arrive bytes => cases h
  | reset n => cases h

end Sys2Proof.Machine

open Sys2Proof Sys2Proof.Machine

/-- Settles O19: of the moves of the control registers two can change the kind. -/
theorem kindFixedAfterNew : Obligations.KindFixedAfterNew := by
  intro s t hstep hne
  rcases step_next s hstep with ⟨-, rfl⟩ | ⟨e, es, hev, hm⟩
  · exact absurd rfl hne
  · rcases hm.outside.control with ⟨-, hk⟩ | ⟨k, ⟨m, rfl, hd⟩, hl, -, hk⟩ | ⟨-, -, -, hk⟩ | ⟨n, rfl, -⟩
    · exact absurd hk hne
    · exact .inl ⟨m, k, es, hev, hd, hl, hk⟩
    · exact absurd hk hne
    · exact .inr ⟨n, es, hev⟩

/-- Settles O20: the three moves of the control registers that change `LIFE`. -/
theorem lifeMoves : Obligations.LifeMoves := by
  intro s t hstep hne
  rcases step_next s hstep with ⟨-, rfl⟩ | ⟨e, es, hev, hm⟩
  · exact absurd rfl hne
  · rcases hm.outside.control with ⟨hl, -⟩ | ⟨k, ⟨m, rfl, hd⟩, hl, ht, -⟩ | ⟨⟨m, rfl, hd⟩, hl, ht, -⟩ | ⟨n, rfl, ht⟩
    · exact absurd hl hne
    · exact .inl ⟨m, k, es, hev, hd, hl, ht⟩
    · exact .inr (.inl ⟨m, es, hev, hd, hl, ht⟩)
    · exact .inr (.inr ⟨n, es, hev, ht⟩)

/-- Settles O27: by `State.Moves.outside`, which says what may come onto the TX stream. -/
theorem txStreamOnlyGrows : Obligations.TxStreamOnlyGrows := by
  intro s t hstep
  rcases step_next s hstep with ⟨-, rfl⟩ | ⟨e, es, hev, hm⟩
  · exact .inl rfl
  · rcases hm.outside.txGrows with ht | ⟨f, b, hp, ht, hpre, hb⟩
    · exact .inl ht
    · refine .inr ⟨f, b, hp, ht, hpre, ?_⟩
      rcases hb with rfl | ⟨n, rfl⟩ | ⟨n, rfl⟩
      · exact .inl rfl
      · exact .inr (.inl ⟨n, es, hev⟩)
      · exact .inr (.inr ⟨n, es, hev⟩)

/-- Settles O28: by `State.Moves.outside`, which says when a SEND in flight does not stay so. -/
theorem sendWaitsForTransport : Obligations.SendWaitsForTransport := by
  intro s t f hstep hp hne
  rcases step_next s hstep with ⟨-, rfl⟩ | ⟨e, es, hev, hm⟩
  · exact absurd hp hne
  · rcases hm.outside.txWaits f hp with ht | rfl | ⟨n, rfl⟩ | ⟨n, rfl⟩
    · exact absurd ht hne
    · exact .inl ⟨es, hev⟩
    · exact .inr (.inl ⟨n, es, hev⟩)
    · exact .inr (.inr ⟨n, es, hev⟩)

/-- Settles O32: a class run on the frame at the cursor leaves what the walk leaves. -/
theorem frameClassesAreTheWalk : Obligations.FrameClassesAreTheWalk :=
  State.serveReads_eq_drain

/-- Settles O34: by induction on the reads, each by `State.drain_readReturns`. -/
theorem slicingMakesNoDifference : Obligations.SlicingMakesNoDifference := by
  intro counts s
  induction counts generalizing s with
  | nil => rfl
  | cons n counts ih => exact (ih (s.readReturns n)).trans (s.drain_readReturns n)

/-- Settles O35: what `State.feed_consumes` says of the bytes one read hands over. -/
theorem readTakesWhatWasAsked : Obligations.ReadTakesWhatWasAsked := by
  intro n s
  obtain ⟨m, hm, hstream, hcursor, hidle, -⟩ := s.feed_consumes (s.rxStream.take (min n s.rxCnt))
  rw [s.length_readBytes n] at hm
  exact ⟨m, by omega, by omega, by omega, hidle, hstream, hcursor⟩

/-- Settles O42: by `State.Moves.rxMoves`; with no event left nothing moves. -/
theorem rxStreamConserved : Obligations.RxStreamConserved := by
  intro s t hstep
  rcases step_next s hstep with ⟨-, rfl⟩ | ⟨e, es, hev, hm⟩
  · exact ⟨0, [], by simp⟩
  · obtain ⟨n, added, hn, hcursor, hstream, hphase, hadded⟩ := hm.rxMoves
    exact ⟨n, added, hn, hcursor, hstream, hphase, fun hne => ⟨es, hadded hne ▸ hev⟩⟩

/-- Settles O51: by `handle_fault`; with no event left nothing faults. -/
theorem onlyHazardsFault : Obligations.OnlyHazardsFault := by
  intro s r hstep
  cases hev : s.events with
  | nil => cases (step_nil s hev).symm.trans hstep
  | cons e es =>
    rw [step_cons s e es hev] at hstep
    rcases handle_fault hstep with
      ⟨hr, hl, hp, ⟨m, ft, id, p, rfl, hd⟩ | ⟨ft, id, ds, rfl⟩⟩ | ⟨hr, hl, hi, m, rfl, hd⟩ |
      ⟨reg, hr, hv, rfl⟩
    · exact .inl ⟨hr, hl, hp, .inl ⟨m, ft, id, p, es, rfl, hd⟩⟩
    · exact .inl ⟨hr, hl, hp, .inr ⟨ft, id, ds, es, rfl⟩⟩
    · exact .inr (.inl ⟨hr, hl, hi, m, es, rfl, hd⟩)
    · exact .inr (.inr ⟨reg, es, hr, hv, rfl⟩)

/-- Settles O50: `execSend` and `execReceive` fault exactly there. -/
theorem overlapFaults : Obligations.OverlapFaults := fun s hl =>
  ⟨fun hp ft id p => (execSend_eq_fault_iff s ft id p _).mpr ⟨rfl, hl, hp⟩,
    fun hi => (execReceive_eq_fault_iff s _).mpr ⟨rfl, hl, hi⟩⟩
end

section
/-! Proofs of the family other, the instructions and events with their whole next state: the life cycle (R13,
R110, R111), SEND and its write (R33, R35, R77, R121 to R127), the received classes and the decoder's errors
(R92, R96, R97, R39), reset (R25, R140), and the fetch on the three ports. -/

namespace Sys2Proof.Machine

variable {s : State}

/-! ### CLOSE (R111) -/

theorem exec_close_opened (hl : s.life = .opened) :
    exec .close s = .next (((s.strobeClose.setLife .closed).abortReceive).completeCtl .ok) := by
  simp [exec, execClose, hl]

theorem exec_close_closed (hl : s.life = .closed) : exec .close s = .next (s.completeCtl .ok) := by
  simp [exec, execClose, hl]

/-! ### SEND that completes at once (R77, R121 to R127) -/

/-- A completed SEND leaves its operands in their registers and its status, and nothing else (assumption 9). -/
theorem State.beginSend_completeTx (hp : s.txPending = none) (ft : FrameType) (id : Word) (p : List Byte)
    (e : Status) : (s.beginSend ft id p).completeTx e =
      { s with txFtype := ft, txId := id, txPayload := p, txStatus := e, txStatusValid := true } := by
  ext1 <;> simp [hp]

/-- Operands that ENCODE rejects complete SEND with the error, open or closed (D15). -/
theorem exec_send_of_encodeError {ft : FrameType} {id : Word} {p : List Byte} {e : Status}
    (hl : s.life ≠ .unconfigured) (hp : s.txPending = none)
    (he : encodeError ft id p.length s.idKind = some e) :
    exec (.send ft id p) s = .next
      { s with txFtype := ft, txId := id, txPayload := p, txStatus := e, txStatusValid := true } := by
  rw [exec_send_of_free s ft id p hl hp, State.submit_of_error _ (encodeWire_error.mpr he),
    State.beginSend_completeTx hp]

/-- Operands that ENCODE accepts meet a closed transport. -/
theorem State.submit_of_closed {f : List Byte} (hl : s.life = .closed)
    (he : encodeWire s.txFtype s.txId s.txPayload s.idKind = .ok f) :
    s.submit = s.completeTx .transportError := by
  simp [State.submit, he, hl]

/-! ### The write of a frame form (R33) -/

/-- The form whose bytes the SEND in flight holds is written as one burst and completes it. -/
theorem emitFrame_of_pending {k : IdKind} {i : Instr} {b : List Byte} (hw : wellFormed k i = true)
    (hk : s.idKind = k) (hb : encode k i = b) (hp : s.txPending = some b) :
    emitFrame k i s = .next
      { s with txBursts := s.txBursts ++ [b], txPending := none, txStatus := .ok, txStatusValid := true } := by
  subst hb
  exact if_pos ⟨hw, hk, hp⟩

/-! ### A frame the decoder walks over (R96, R97) -/

/-- What stands behind the fields of a frame at the cursor and its end byte. -/
theorem State.drop_frame {cfg e : Byte} {ids p rest : List Byte} (hi : ids.length = wireSize s.idKind)
    (hst : s.rxStream = Config.startMarker :: cfg :: (ids ++ p ++ [e]) ++ rest) :
    s.rxStream.drop (3 + wireSize s.idKind + p.length) = rest := by
  rw [hst, List.drop_left' (by simp [hi]; omega)]

/-- A class met at its start by a RECEIVE is consumed exactly, and its fields are the results (R101). -/
theorem exec_received (x : BitVec 3) (ft : FrameType) {id : Word} {p rest : List Byte}
    (hs : s.rxPhase = .start) (hp : p.length ≤ 15) (hid : id.toNat < 2 ^ (8 * wireSize s.idKind))
    (hst : s.rxStream = [0xAA#8, rxConfigByte x ft p.length] ++ idBytes (wireSize s.idKind) id ++ p
      ++ [0x55#8] ++ rest) :
    ∃ t, exec (receivedInstr (rxConfigByte x ft p.length) id p) s = .next t ∧
      { t with rxCfg := s.rxCfg, rxCnt := s.rxCnt, rxAcc := s.rxAcc, rxGathered := s.rxGathered } =
      { s with rxStream := rest, rxCursor := s.rxCursor + (3 + wireSize s.idKind + p.length),
               rxPhase := .idle, rxStatus := .ok, rxStatusValid := true, rxFtype := ft,
               rxId := id, rxPayload := p, rxFrameValid := true } := by
  rw [← wireFrame_eq_append] at hst
  have hi := length_idBytes (wireSize s.idKind) id
  have hexec := exec_receivedInstr s _ _ p rest hs (configLen_rxConfigByte x ft _ hp).symm hi hst
  rw [idOfBytes_idBytes _ id hid] at hexec
  have hdrop := State.drop_frame hi hst
  refine ⟨_, hexec, ?_⟩
  ext1 <;> simp [State.acceptFrame, State.atEnd, hdrop, configFtype_rxConfigByte x ft _ hp,
    idOfBytes_idBytes _ id hid]

end Sys2Proof.Machine

open Sys2Proof Sys2Proof.Machine

/-- Settles O16: NEW in an unconfigured block, and R13's refusal elsewhere. -/
theorem newConfigures : Obligations.NewConfigures := by
  refine fun k s => ⟨fun hl => ?_, fun hl => ?_⟩
  · simp only [exec, execNew, hl]
    rfl
  · exact (exec_operation_refused_iff s rfl _).mpr ⟨rfl, by simpa using hl⟩

/-- Settles O17: R13's refusals in an unconfigured block. -/
theorem refusedBeforeNew : Obligations.RefusedBeforeNew := fun s hl =>
  ⟨fun _ _ _ => (exec_operation_refused_iff s rfl _).mpr ⟨rfl, by simpa using hl⟩,
    (exec_operation_refused_iff s rfl _).mpr ⟨rfl, by simpa using hl⟩,
    (exec_operation_refused_iff s rfl _).mpr ⟨rfl, by simpa using hl⟩⟩

/-- Settles O18: on an open Converter with and without a RECEIVE to end, and on a closed one. -/
theorem closeEndsTransport : Obligations.CloseEndsTransport := by
  refine fun s => ⟨fun hl hi => ?_, fun hl hi => ?_, fun hl => exec_close_closed hl⟩
  · have habort : (s.strobeClose.setLife .closed).abortReceive = s.strobeClose.setLife .closed := if_pos hi
    rw [exec_close_opened hl, habort]
    rfl
  · have habort : (s.strobeClose.setLife .closed).abortReceive
        = (s.strobeClose.setLife .closed).completeRx .transportError := if_neg hi
    rw [exec_close_opened hl, habort]
    rfl

/-- Settles O22: ENCODE accepts the operands and the transport is closed. -/
theorem sendOnClosedConverter : Obligations.SendOnClosedConverter := by
  intro ft id p f s hl hp hf
  have hsubmit : (s.beginSend ft id p).submit = (s.beginSend ft id p).completeTx .transportError :=
    State.submit_of_closed hl hf
  rw [exec_send_of_free s ft id p (by simp [hl]) hp, hsubmit, State.beginSend_completeTx hp]

/-- Settles O23: each check that fails first is the error SEND completes with. -/
theorem sendInvalidReportsEncodeError : Obligations.SendInvalidReportsEncodeError := by
  refine fun ft id p s hl hp => ⟨fun hft hne => ?_, fun hr hk hid => ?_, fun hft hid hlen => ?_⟩
  · exact exec_send_of_encodeError hl hp (encodeError_of_remotePayload hft (by simpa using hne))
  · exact exec_send_of_encodeError hl hp (encodeError_of_largeId (by simpa using hr) hk hid)
  · exact exec_send_of_encodeError hl hp (encodeError_of_largePayload hft hid hlen)

/-- Settles O24: form by form, the bytes held being the encoding of the form. -/
theorem emittedFormsWritten : Obligations.EmittedFormsWritten := by
  refine fun s => ⟨fun id p hk hl hp => ?_, fun id hk hp => ?_, fun id p hk hl hp => ?_, fun id hk hp => ?_⟩
  · exact emitFrame_of_pending ((payloadFits_iff p).mpr hl) hk (wireFrame_eq_append ..) hp
  · exact emitFrame_of_pending (i := .frameRemoteStd id) rfl hk (wireFrame_eq_append ..) hp
  · exact emitFrame_of_pending ((payloadFits_iff p).mpr hl) hk (wireFrame_eq_append ..) hp
  · exact emitFrame_of_pending (i := .frameRemoteExt id) rfl hk (wireFrame_eq_append ..) hp

/-- Settles O26: what was delivered is on the TX stream, and SEND completes. -/
theorem failedWriteLeavesPrefix : Obligations.FailedWriteLeavesPrefix := by
  intro f n es s hp
  have hfail : (s.withEvents es).failWrite n
      = ((s.withEvents es).deliver n f).completeTx .transportError := by
    simp [State.failWrite, hp]
  rw [step_withEvents, handle, hfail, State.deliver_eq]
  rfl

/-- Settles O31: `exec_received` for either class. -/
theorem receivedClassesAccepted : Obligations.ReceivedClassesAccepted := by
  refine fun x id p rest s hs hp hid => ⟨fun hst => ?_, fun hst => ?_⟩
  · rw [← receivedInstr_rxConfigByte_data x id hp]
    exact exec_received x .data hs hp hid hst
  · rw [← receivedInstr_rxConfigByte_remote x id hp]
    exact exec_received x .remote hs hp hid hst

/-- Settles O36: the walk takes one byte and RECEIVE completes. -/
theorem badStartConsumesOneByte : Obligations.BadStartConsumesOneByte := by
  intro b rest es s hs hst hb
  rw [step_withEvents, handle, State.serveReads_eq_drain,
    State.drain_of_badStart (s.withEvents es) hs hst hb]
  congr 1
  ext1 <;> simp [hst]

/-- Settles O37: the walk over a frame whose end byte is not the end marker. -/
theorem badEndConsumesWholeRun : Obligations.BadEndConsumesWholeRun := by
  intro cfg e ids p rest es s hs hst hi hl he
  have hsplit : s.rxStream = Config.startMarker :: cfg :: (ids ++ p ++ [e]) ++ rest := by
    simp [hst, Config.startMarker]
  have hdrain := ((s.withEvents es).drain_frame cfg e ids p rest hs hl hi hsplit).trans (if_neg he)
  have hdrop := State.drop_frame hi hsplit
  refine ⟨_, by rw [step_withEvents, handle, State.serveReads_eq_drain, hdrain], ?_⟩
  ext1 <;> simp [State.atEnd, hdrop]

/-- Settles O40: a RECEIVE in flight is aborted. -/
theorem failedReadEndsReceive : Obligations.FailedReadEndsReceive := fun es s hi =>
  congrArg _ (if_neg hi : (s.withEvents es).abortReceive = _)

/-- Settles O46: the registers of `State.reset`; every window is closed. -/
theorem resetState : Obligations.ResetState :=
  ⟨rfl, rfl, fun r => by cases r <;> rfl, rfl, rfl, rfl, rfl⟩

/-- Settles O47: the registers are those of reset, and of the streams only the TX stream may have grown. -/
theorem resetInput : Obligations.ResetInput := by
  refine fun n es s => ⟨_, rfl, rfl, rfl, rfl, fun r => ?_, rfl, rfl, rfl, rfl, ?_⟩
  · exact (State.visible_eq_none_iff _ r).mpr ((s.withEvents es).assertReset_holdsValue n r)
  · cases hp : s.txPending with
    | none => simpa using State.assertReset_txBursts_of_none (s := s.withEvents es) hp n
    | some f =>
      exact (State.assertReset_txBursts_of_pending (s := s.withEvents es) hp n).trans
        (State.deliver_txBursts _ n f)

/-- Settles O48: on the command port and for the burst in flight by the fetch; the frame at the cursor is
walked over, which leaves what its class leaves. -/
theorem stepRunsDecoded : Obligations.StepRunsDecoded := by
  refine fun i bytes es s => ⟨fun hd => runDecoded_ok _ hd, fun hp hd => ?_, fun rest hs hst hd => ?_⟩
  · exact State.completeWrite_of_decodeBurst (s := s.withEvents es) hp hd
  · obtain ⟨cfg, ids, p, rfl, hl, hi, rfl⟩ := decodeReceived_ok hd
    rw [State.step_readAll_of_frame es hs hl hi hst]
    exact (exec_receivedInstr (s.withEvents es) cfg ids p rest hs hl hi hst).symm
end
